-- ==== Sys2Proof/Word.lean ====
section
/-! DEFINITION. The word types of the host port and of the wire (00_scope R8, R9). -/

namespace Sys2Proof

/-- One byte of a buffer or of a datagram. -/
abbrev Byte := BitVec 8

/-- A 16-bit field of the Echo message (00_scope R9). -/
abbrev Half := BitVec 16

/-- A 32-bit word of the host port (20_memory R60). -/
abbrev Word := BitVec 32

/-- A 64-bit tick count (10_state R36). -/
abbrev Tick := BitVec 64

end Sys2Proof
end

