-- ==== Sys2Proof/Syntax.lean ====
section
/-! DEFINITION. The six commands (30_encoding R91), and what the agents around the engine can do: host transactions
(20_memory R61), transport messages (30_encoding R108) and the atomic steps of 00_scope R7. -/

namespace Sys2Proof

/-- The commands of 30_encoding R91, one per row of the opcode table. No command word has an operand field (R93). -/
inductive Instr where
  | foldsum
  | cksum
  | compose
  | parse
  | validate
  | probe
deriving DecidableEq, Repr, Inhabited

/-- A host-port transaction (20_memory R61): a direction, a 12-bit byte address and, for a WRITE, a word. -/
inductive HostTxn where
  | read (addr : BitVec 12)
  | write (addr : BitVec 12) (data : Word)
deriving DecidableEq, Repr, Inhabited

/-- The messages TRANSPORT gives the engine (30_encoding R108). -/
inductive TransportMsg where
  | openRsp (ok : Bool)
  | sendRsp (ok : Bool)
  | rx (d : List Byte)
  | fault
deriving DecidableEq, Repr, Inhabited

/-- The requests the engine puts on the transport port (30_encoding R108). -/
inductive TransportReq where
  | openReq
  | send (dst : Word) (msg : List Byte)
  | close
deriving DecidableEq, Repr, Inhabited

/-- One atomic step of one agent (00_scope R7), or an assertion of the reset input (70_reset_and_hazards R240). -/
inductive Event where
  | host (t : HostTxn)
  | engine
  | transport (m : TransportMsg)
  | tick
  | reset
deriving DecidableEq, Repr, Inhabited

end Sys2Proof
end

