-- ==== Sys2Proof/Config.lean ====
section
/-! DEFINITION. What an implementation fixes (00_scope R8) and the free values: what the spec leaves open is an opaque
constant here, of which nothing can be proved. -/

namespace Sys2Proof.Config

/-- The implementation parameters of 00_scope R8. They travel in State and no step changes them (log 4). -/
structure Params where
  /-- `DBUF_BYTES`: capacity of DBUF. -/
  dbufBytes : Nat
  /-- `RXBUF_BYTES`: capacity of RXBUF. -/
  rxbufBytes : Nat
  /-- `TICKS_PER_MS`: TIMEBASE ticks per millisecond, OPEN in the spec. -/
  ticksPerMs : Nat
deriving DecidableEq, Repr

/-- The defaults of R8 for the two capacities; DESIGN CHOICE (unsafe, log 4): TICKS_PER_MS is OPEN in the spec, and
1000 is the value of its examples. -/
def defaultParams : Params := { dbufBytes := 256, rxbufBytes := 128, ticksPerMs := 1000 }

/-- `ICMP_PROTO` (00_scope R8, 30_encoding R103): the protocol number the envelope check wants. -/
abbrev icmpProto : Byte := 1#8

/-- FREE VALUE (93 I1, I3; log 5): the byte that a DBUF or RXBUF address holds after the reset number `epoch`, until it is
written. -/
opaque bufferByte (epoch addr : Nat) : Byte

/-- FREE VALUE (93 I2; log 5): the byte that a host read of an unwritten TXBUF address gives in the step number `draw`. -/
opaque txbufByte (draw addr : Nat) : Byte

/-- FREE VALUE (00_scope R7, 60_exceptions R216 (4), 93 I5, I7, I8, I9; log 1): which agent takes the step number `draw`
and with what transaction, message or datagram, when nothing is decided yet. -/
opaque environment (draw : Nat) : Event

end Sys2Proof.Config
end

