-- ==== Sys2Proof/WellFormed.lean ====
section
/-! DEFINITION. What the spec lets a command, a message and a parameter set be. -/

namespace Sys2Proof

/-- A command has no operand field (30_encoding R93), so every term of the syntax is well formed. -/
def Instr.wf : Instr → Bool
  | .foldsum => true
  | .cksum => true
  | .compose => true
  | .parse => true
  | .validate => true
  | .probe => true

/-- An RX carries 0 to 65535 bytes (30_encoding R108, 42_probe R182). -/
def TransportMsg.wf : TransportMsg → Bool
  | .openRsp _ => true
  | .sendRsp _ => true
  | .rx d => decide (d.length ≤ 65535)
  | .fault => true

/-- The legal parameter values of 00_scope R8. -/
def Config.Params.wf (p : Config.Params) : Bool :=
  decide (p.dbufBytes % 4 = 0 ∧ 8 ≤ p.dbufBytes ∧ p.dbufBytes ≤ 1024) &&
  decide (p.rxbufBytes % 4 = 0 ∧ 68 ≤ p.rxbufBytes ∧ p.rxbufBytes ≤ 1024) &&
  decide (0 < p.ticksPerMs)

/-- What an agent's step may be: only a transport message can be ill formed. -/
def Event.wf : Event → Bool
  | .host _ => true
  | .engine => true
  | .transport m => m.wf
  | .tick => true
  | .reset => true

end Sys2Proof
end

