-- ==== Sys2Proof/Decode.lean ====
section
/-! DEFINITION. Decoding a command word (30_encoding R90 to R92), and the encoder written from the same table. -/

namespace Sys2Proof

/-- Why a word is no command (30_encoding R92). The host port rejects both alike, with ERR = ILLEGAL_CMD. -/
inductive DecodeError where
  /-- RSVD, bits 31:8, is not 0. -/
  | reservedNotZero
  /-- OP is 0x00 or 0x07 to 0xFF. -/
  | illegalOpcode
deriving DecidableEq, Repr

/-- Bits 7:0 of a command word (30_encoding R90). -/
def opField (w : Word) : Byte := w.extractLsb' 0 8

/-- Bits 31:8 of a command word (30_encoding R90). -/
def rsvdField (w : Word) : BitVec 24 := w.extractLsb' 8 24

/-- The opcode map of 30_encoding R91 on the OP field. -/
def decodeOp (op : Byte) : Option Instr :=
  if op = 0x01#8 then some .foldsum
  else if op = 0x02#8 then some .cksum
  else if op = 0x03#8 then some .compose
  else if op = 0x04#8 then some .parse
  else if op = 0x05#8 then some .validate
  else if op = 0x06#8 then some .probe
  else none

/-- Decodes a command word: an exact match of all 32 bits (30_encoding R91). -/
def decode (w : Word) : Except DecodeError Instr :=
  if rsvdField w ≠ 0#24 then .error .reservedNotZero
  else
    match decodeOp (opField w) with
    | some i => .ok i
    | none => .error .illegalOpcode

/-- The OP value of each command (30_encoding R91). -/
def opcode : Instr → Byte
  | .foldsum => 0x01#8
  | .cksum => 0x02#8
  | .compose => 0x03#8
  | .parse => 0x04#8
  | .validate => 0x05#8
  | .probe => 0x06#8

/-- The command word of each command: OP in bits 7:0, RSVD zero (30_encoding R90, R91). -/
def encode (i : Instr) : Word := (0#24 ++ opcode i).cast rfl

/-- The instruction the decoder reads from a table row's bits `w`, of which the row gives `nbits`. A command is exactly one
32-bit word (30_encoding R90): a value that does not fit one is no command. -/
def decodeTableWord (nbits w : Nat) : Option Instr :=
  if w % 2 ^ nbits < 2 ^ 32 then
    match decode (BitVec.ofNat 32 (w % 2 ^ nbits)) with
    | .ok i => some i
    | .error _ => none
  else none

end Sys2Proof
end

