-- ==== Sys2Proof/Machine/State.lean ====
section
/-! DEFINITION. The state of the IEE (10_state R20), its reset value (R52), and the reasons a step can stop. -/

namespace Sys2Proof.Machine

/-- The codes of STATUS.ERR (10_state R30, 30_encoding R105). Codes 5 to 15 are never written and have no term here
(93 I16, log 8). -/
inductive ErrCode where
  | none
  | invalidLength
  | protocol
  | illegalCmd
  | halted
deriving DecidableEq, Repr

/-- The probe sequencer's states (10_state R31, 30_encoding R106). Codes 6 and 7 are never held (log 8). -/
inductive PState where
  | idle
  | opening
  | sending
  | sent
  | received
  | releasing
deriving DecidableEq, Repr

/-- The tags of PRESULT and PRES (10_state R38, R48; 30_encoding R104). Codes 6 and 7 are never written (log 8). -/
inductive ProbeResult where
  | none
  | success
  | timedOut
  | wrongAnswer
  | socketError
  | protocolError
deriving DecidableEq, Repr

/-- The outstanding transport request TREQ (10_state R47). CLOSE is never outstanding. -/
inductive TReq where
  | none
  | openReq
  | send
deriving DecidableEq, Repr

/-- The errors a command can raise (60_exceptions R214), with the information the rule names; the machine records none of
it (R211). -/
inductive CommandError where
  | invalidLength (n : Nat)
  | protocolError
deriving DecidableEq, Repr

/-- The IEE's state: all that 10_state R20 names, and after it the model's own fields (10_state R51), which no host read
shows. A register's reserved bits are not stored: they read 0 (10_state R22). -/
structure State where
  /-- CTRL.IE (R23). -/
  ie : Bool
  /-- STATUS.BUSY (R25). -/
  busy : Bool
  /-- STATUS.DONE (R26). -/
  done : Bool
  /-- STATUS.RV (R27). -/
  rv : Bool
  /-- STATUS.OVR (R28). -/
  ovr : Bool
  /-- STATUS.FATAL (R29). -/
  fatal : Bool
  /-- STATUS.ERR (R30). -/
  err : ErrCode
  /-- STATUS.PSTATE (R31). -/
  pstate : PState
  /-- STATUS.HANDLE (R32). -/
  handle : Bool
  /-- LEN[15:0] (R33). -/
  len : Half
  /-- IDENT[15:0] (R34). -/
  ident : Half
  /-- SEQ[15:0] (R34). -/
  seq : Half
  /-- TARGET (R35). -/
  target : Word
  /-- TIMEOUT (R35). -/
  timeout : Word
  /-- RESULT (R37). -/
  result : Word
  /-- PRESULT (R38). -/
  presult : ProbeResult
  /-- LATENCY (R39). -/
  latency : Word
  /-- ELAPSED (R40). -/
  elapsed : Word
  /-- RXLEN[15:0] (R41). -/
  rxlen : Half
  /-- TIME (R36). -/
  time : Tick
  /-- T0 (R46). -/
  t0 : Tick
  /-- CUROP (R45). -/
  curop : Byte
  /-- TREQ (R47). -/
  treq : TReq
  /-- PRES (R48). -/
  pres : ProbeResult
  /-- DBUF, TXBUF and RXBUF (R42 to R44): the bytes written since reset, by host-port address, in strictly rising order. -/
  mem : List Host.Cell
  /-- MODEL's own: the implementation parameters (00_scope R8), which no step changes (log 4). -/
  params : Config.Params
  /-- MODEL's own output: the request the last step put on the transport port (log 7). -/
  issued : Option TransportReq
  /-- MODEL's own output: the word the last step answered to a host READ (log 7). -/
  rdata : Option Word
  /-- MODEL's own input: the agent steps already decided, the next one first (log 1). -/
  agenda : List Event
  /-- MODEL's own: the number of steps taken, the index of the free values (log 1, log 5). -/
  draws : Nat
  /-- MODEL's own: the number of resets taken, the index of the unspecified buffer bytes (log 5). -/
  epoch : Nat
deriving DecidableEq, Repr

/-- Why a step stops with a fault. -/
inductive Fault where
  /-- Raised by the ENGINE step when BUSY = 1 and CUROP holds no opcode. Acceptance alone sets BUSY, and it writes a legal
  opcode to CUROP (10_state R45, 60_exceptions R212), so no run from reset gets here. SAFE: the spec has no such state
  (log 9). -/
  | curopNamesNoCommand
deriving DecidableEq, Repr

/-- Why a step is refused. -/
inductive Refusal where
  /-- Raised by exec for an instruction that has no meaning yet; every instruction has one, so nothing raises it. SAFE. -/
  | notModelled (mnemonic : String)
deriving DecidableEq, Repr

/-- The machine right after reset (10_state R52). The buffers list nothing: their contents are unspecified. The values of
the model's own fields are DESIGN CHOICES (logs 1, 4, 5 and 7). -/
def State.reset : State where
  ie := false
  busy := false
  done := false
  rv := false
  ovr := false
  fatal := false
  err := .none
  pstate := .idle
  handle := false
  len := 0
  ident := 0
  seq := 0
  target := 0
  timeout := 0
  result := 0
  presult := .none
  latency := 0
  elapsed := 0
  rxlen := 0
  time := 0
  t0 := 0
  curop := 0
  treq := .none
  pres := .none
  mem := []
  params := Config.defaultParams
  issued := none
  rdata := none
  agenda := []
  draws := 0
  epoch := 0

end Sys2Proof.Machine
end

