-- ==== Sys2Proof/Machine/Ops.lean ====
section
/-! DEFINITION. The named operations over the buffers and the registers: byte order, memory, requests, accepting and
rejecting a command, completing one, raising an error ("taking an exception") and acknowledging it ("returning"). -/

namespace Sys2Proof.Machine

/-! ### Byte order (20_memory R64, R68) -/

/-- `be16(B, i)` of 00_scope R11 on its two bytes: the first byte is the high one. -/
def be16 (hi lo : Byte) : Half := (hi ++ lo).cast rfl

/-- The buffer word of 20_memory R64: the byte at the lowest address is the most significant. -/
def word4 (b0 b1 b2 b3 : Byte) : Word := (b0 ++ b1 ++ b2 ++ b3).cast rfl

/-- The bytes v[hi:lo] of a 16-bit value, high byte first. -/
def halfBytes (h : Half) : List Byte := [h.extractLsb' 8 8, h.extractLsb' 0 8]

/-- The four bytes of a buffer word, in order of rising address (20_memory R63, R64). -/
def wordBytes (w : Word) : List Byte :=
  [w.extractLsb' 24 8, w.extractLsb' 16 8, w.extractLsb' 8 8, w.extractLsb' 0 8]

/-- `{hi, lo}` of two 16-bit values, the RESULT of PARSE and VALIDATE (30_encoding R107). -/
def pair (hi lo : Half) : Word := (hi ++ lo).cast rfl

/-! ### The buffers as one memory (10_state R42 to R44) -/

/-- Host-port address of TXBUF[0] (10_state R21). -/
abbrev txbufBase : Nat := 0x040

/-- Host-port address of DBUF[0] (10_state R21). -/
abbrev dbufBase : Nat := 0x400

/-- Host-port address of RXBUF[0] (10_state R21). -/
abbrev rxbufBase : Nat := 0x800

/-- The canonical form of a memory: addresses strictly rising. No stored byte equals what an unlisted address reads as,
because an unlisted address holds no byte at all: it reads as a free value (log 5). -/
def Memory.wf : List Host.Cell → Bool
  | [] => true
  | [_] => true
  | c :: c' :: rest => decide (c.1 < c'.1) && Memory.wf (c' :: rest)

/-- The byte written at an address, if any was. -/
def memLookup : List Host.Cell → Nat → Option Byte
  | [], _ => none
  | c :: rest, a => if c.1 = a then some c.2 else memLookup rest a

/-- Writes one byte, keeping the addresses strictly rising. -/
def memWrite : List Host.Cell → Nat → Byte → List Host.Cell
  | [], a, b => [(a, b)]
  | c :: rest, a, b =>
    if a < c.1 then (a, b) :: c :: rest
    else if a = c.1 then (a, b) :: rest
    else c :: memWrite rest a b

/-- Writes a byte sequence at rising addresses from `a`. -/
def memWriteBytes (m : List Host.Cell) (a : Nat) : List Byte → List Host.Cell
  | [] => m
  | b :: bs => memWriteBytes (memWrite m a b) (a + 1) bs

/-- What an address nothing has written since reset reads as: a FREE VALUE (93 I1, I2, I3; log 5). TXBUF draws one per host
read, DBUF and RXBUF hold one per byte from each reset on. -/
def freeByte (s : State) (a : Nat) : Byte :=
  if txbufBase ≤ a ∧ a < txbufBase + 8 then Config.txbufByte s.draws a else Config.bufferByte s.epoch a

/-- Reads one byte of a buffer, by its host-port address. -/
def readByte (s : State) (a : Nat) : Byte := (memLookup s.mem a).getD (freeByte s a)

/-- Reads `n` bytes of a buffer at rising addresses from `a`. -/
def readBytes (s : State) (a n : Nat) : List Byte := (List.range n).map fun i => readByte s (a + i)

/-- Stores a byte sequence into a buffer from host-port address `a`. -/
def storeBytes (a : Nat) (bs : List Byte) (s : State) : State := { s with mem := memWriteBytes s.mem a bs }

/-! ### Requests on the transport port -/

/-- `TReq(r)` (00_scope R12): puts a request on the transport port. -/
def issue (r : TransportReq) (s : State) : State := { s with issued := some r }

/-! ### Acceptance, rejection, completion and errors (60_exceptions R212 to R215) -/

/-- The part of acceptance that every command shares (60_exceptions R212, the lines after "accepted"). -/
def accept (i : Instr) (s : State) : State :=
  { s with curop := opcode i, busy := true, done := false, rv := false, err := .none }

/-- The rejection of a presented command (60_exceptions R212): only ERR and DONE change. -/
def reject (e : ErrCode) (s : State) : State := { s with err := e, done := true }

/-- `finish(e)` (60_exceptions R213): the completion of an accepted command. -/
def finish (e : ErrCode) (s : State) : State := { s with err := e, busy := false, done := true }

/-- `raise E(info)` (60_exceptions R214): the one way an error is reported. InvalidLengthError is fatal (R215), and no
error writes a result. -/
def raise (e : CommandError) (s : State) : State :=
  match e with
  | .invalidLength _ => finish .invalidLength { s with fatal := true }
  | .protocolError => finish .protocol s

/-- The acknowledgement of a completion or an error (60_exceptions R218): a host write to STATUS, which acts on the W1C bits
DONE and OVR alone (10_state R24, 20_memory R63). FATAL stays set until reset. -/
def acknowledge (v : Word) (s : State) : State :=
  { s with
    done := if v.getLsbD 1 then false else s.done
    ovr := if v.getLsbD 3 then false else s.ovr }

/-- The life of a command, as 40_checksum and 60_exceptions R212 give it. While the engine is idle the command is being
presented: it is rejected when FATAL = 1, and else accepted, with what `start` adds to acceptance. While BUSY = 1 it is being
executed: its ENGINE step is taken. -/
def runCommand (i : Instr) (start execute : State → State) (s : State) : Host.Outcome State Fault Refusal :=
  if s.busy then .next (execute s)
  else if s.fatal then .next (reject .halted s)
  else .next (start (accept i s))

end Sys2Proof.Machine
end

