-- ==== Sys2Proof/Machine/Operands.lean ====
section
/-! DEFINITION. The operands of the commands (30_encoding R93): fixed registers and buffers. -/

namespace Sys2Proof.Machine

/-- `n = LEN[15:0]`, the length operand of FOLDSUM, CKSUM, PARSE and VALIDATE (10_state R33). -/
def lenOperand (s : State) : Nat := s.len.toNat

/-- `DBUF[0..n)` (10_state R42). -/
def dbufOperand (n : Nat) (s : State) : List Byte := readBytes s dbufBase n

/-- `RXBUF[0..min(RXLEN, RXBUF_BYTES))`, what the engine keeps of the accepted datagram (42_probe R179). -/
def storedDatagram (s : State) : List Byte := readBytes s rxbufBase (min s.rxlen.toNat s.params.rxbufBytes)

/-- `(TIME - T0) mod 2^64`, the elapsed ticks (42_probe R175). -/
def elapsedTicks (s : State) : Tick := s.time - s.t0

/-- Whether the wait window has closed: `(TIME - T0) mod 2^64 > TIMEOUT` (42_probe R176). -/
def expired (s : State) : Bool := decide (s.timeout.toNat < (elapsedTicks s).toNat)

end Sys2Proof.Machine
end

