-- ==== Sys2Proof/Machine/Checksum.lean ====
section
/-! DEFINITION. The checksum unit (40_checksum): foldedSum, checksum, FOLDSUM and CKSUM. -/

namespace Sys2Proof.Machine

/-- The unfolded sum S of 40_checksum R120 over the big-endian 16-bit words of a byte sequence, unbounded. The rule defines it
for even lengths only, and no command gets here with an odd one (log 11). -/
def wordSum : List Byte → Nat
  | b0 :: b1 :: rest => (be16 b0 b1).toNat + wordSum rest
  | _ => 0

/-- The loop of R120, at most `fuel` times: the bits above bit 15 are added back into the low 16 bits. -/
def foldLoop : Nat → Nat → Nat
  | 0, S => S
  | fuel + 1, S => if 0x10000 ≤ S then foldLoop fuel (S % 0x10000 + S / 0x10000) else S

/-- The fold of R120. Each turn of the loop lowers S, so S turns are enough. -/
def fold (S : Nat) : Nat := foldLoop S S

/-- `foldedSum(B)` (R120). -/
def foldedSum (B : List Byte) : Nat := fold (wordSum B)

/-- `checksum(B)` (R121): the complement of the folded sum on 32 bits, of which 16 are kept. -/
def checksum (B : List Byte) : Half := ((~~~ (BitVec.ofNat 32 (foldedSum B))) &&& 0xFFFF#32).setWidth 16

/-- Whether FOLDSUM and CKSUM raise InvalidLengthError on length `n` (60_exceptions R211). -/
def badSumLength (n : Nat) (s : State) : Bool := decide (s.params.dbufBytes < n) || decide (n % 2 = 1)

/-- The ENGINE execute step of FOLDSUM (R123). -/
def foldsumStep (s : State) : State :=
  if badSumLength (lenOperand s) s then raise (.invalidLength (lenOperand s)) s
  else finish .none { s with result := BitVec.ofNat 32 (foldedSum (dbufOperand (lenOperand s) s)) }

/-- FOLDSUM (R123). -/
def execFoldsum (s : State) : Host.Outcome State Fault Refusal := runCommand .foldsum id foldsumStep s

/-- The ENGINE execute step of CKSUM (R125). -/
def cksumStep (s : State) : State :=
  if badSumLength (lenOperand s) s then raise (.invalidLength (lenOperand s)) s
  else finish .none { s with result := (checksum (dbufOperand (lenOperand s) s)).setWidth 32 }

/-- CKSUM (R125). -/
def execCksum (s : State) : Host.Outcome State Fault Refusal := runCommand .cksum id cksumStep s

end Sys2Proof.Machine
end

