-- ==== Sys2Proof/Machine/Codec.lean ====
section
/-! DEFINITION. The codec unit (41_codec): composeMsg, parseMsg, COMPOSE and PARSE. -/

namespace Sys2Proof.Machine

/-- An 8-byte Echo message (30_encoding R100): type, code 0, checksum, identifier, sequence, big-endian. -/
def echoMsg (type : Byte) (cksum id seq : Half) : List Byte :=
  [type, 0#8] ++ halfBytes cksum ++ halfBytes id ++ halfBytes seq

/-- The type of an Echo Request (30_encoding R100, R101). -/
abbrev typeRequest : Byte := 8#8

/-- The type of an Echo Reply (30_encoding R100, R101). -/
abbrev typeReply : Byte := 0#8

/-- `composeMsg(id, seq)` (41_codec R140): the message and its checksum, or `none` where the rule says Fail. The self-check
is computed, though R143 shows that it never fails. -/
def composeMsg (id seq : Half) : Option (List Byte × Half) :=
  let c := checksum (echoMsg typeRequest 0#16 id seq)
  let M := echoMsg typeRequest c id seq
  if foldedSum M ≠ 0xFFFF then none else some (M, c)

/-- `parseMsg(B)` (41_codec R141). The rule defines it for 8 bytes only, and no command gets here with another length
(log 11). -/
def parseMsg : List Byte → Option (Half × Half)
  | [t, c, k1, k0, i1, i0, s1, s0] =>
    if foldedSum [t, c, k1, k0, i1, i0, s1, s0] = 0xFFFF ∧ t = typeReply ∧ c = 0#8 then some (be16 i1 i0, be16 s1 s0)
    else none
  | _ => none

/-- The completion of PARSE and VALIDATE with a value or with none (41_codec R146, 42_probe R165). -/
def finishValue (r : Option (Half × Half)) (s : State) : State :=
  match r with
  | some (id, seq) => finish .none { s with result := pair id seq, rv := true }
  | none => finish .none { s with result := 0#32, rv := false }

/-- The ENGINE execute step of COMPOSE (41_codec R144). -/
def composeStep (s : State) : State :=
  match composeMsg s.ident s.seq with
  | none => raise .protocolError s
  | some (M, c) => finish .none { storeBytes txbufBase M s with result := c.setWidth 32 }

/-- COMPOSE (41_codec R144). -/
def execCompose (s : State) : Host.Outcome State Fault Refusal := runCommand .compose id composeStep s

/-- The ENGINE execute step of PARSE (41_codec R146). -/
def parseStep (s : State) : State :=
  if lenOperand s ≠ 8 then raise (.invalidLength (lenOperand s)) s
  else finishValue (parseMsg (dbufOperand 8 s)) s

/-- PARSE (41_codec R146). -/
def execParse (s : State) : Host.Outcome State Fault Refusal := runCommand .parse id parseStep s

end Sys2Proof.Machine
end

