-- ==== Sys2Proof/Machine/Probe.lean ====
section
/-! DEFINITION. The probe unit (42_probe): the reply validator, VALIDATE, the latency, the timeout detector, PROBE, and the
engine's reaction to each TRANSPORT message. -/

namespace Sys2Proof.Machine

/-- What the reply validator answers (42_probe R160). -/
inductive Verdict where
  | matched (id seq : Half)
  | wrong
deriving DecidableEq, Repr

/-- Byte `i` of a datagram. The steps of R160 read only bytes the datagram has: step (a) comes first. -/
def byteAt (D : List Byte) (i : Nat) : Byte := D.getD i 0#8

/-- header_length_bytes(D), from IHL taken literally (30_encoding R102, 42_probe R160 (e), R162). -/
def headerLength (D : List Byte) : Nat := ((byteAt D 0).extractLsb' 0 4).toNat * 4

/-- The version field D[0][7:4] (30_encoding R102). -/
def ipVersion (D : List Byte) : BitVec 4 := (byteAt D 0).extractLsb' 4 4

/-- The source address, first octet most significant (30_encoding R102). -/
def sourceAddress (D : List Byte) : Word := word4 (byteAt D 12) (byteAt D 13) (byteAt D 14) (byteAt D 15)

/-- The steps (a) to (h) of 42_probe R160 on a datagram of length `L` of which `D` is at least the first min(L, 68) bytes.
R179 has the engine validate in this way: on the bytes RXBUF kept and on RXLEN. -/
def classifyLen (D : List Byte) (L : Nat) (target : Word) (id seq : Half) : Verdict :=
  if L < 20 then .wrong
  else if sourceAddress D ≠ target then .wrong
  else if ipVersion D ≠ 4#4 then .wrong
  else if byteAt D 9 ≠ Config.icmpProto then .wrong
  else if L - headerLength D ≠ 8 then .wrong
  else
    match parseMsg (D.drop (headerLength D)) with
    | none => .wrong
    | some (id', seq') => if id' ≠ id ∨ seq' ≠ seq then .wrong else .matched id' seq'

/-- `classify(D, target, id, seq)` (42_probe R160). -/
def classify (D : List Byte) (target : Word) (id seq : Half) : Verdict := classifyLen D D.length target id seq

/-- `latencyMs(E)` (42_probe R163) with `T` = TICKS_PER_MS: E / T rounded half to even. -/
def latencyMs (T E : Nat) : Nat :=
  let q := E / T
  let r := E % T
  if 2 * r < T then q
  else if T < 2 * r then q + 1
  else q + q % 2

/-- The verdict as the value of 42_probe R165. -/
def verdictValue : Verdict → Option (Half × Half)
  | .matched id seq => some (id, seq)
  | .wrong => none

/-- The ENGINE execute step of VALIDATE (42_probe R165). -/
def validateStep (s : State) : State :=
  if s.params.dbufBytes < lenOperand s then raise (.invalidLength (lenOperand s)) s
  else finishValue (verdictValue (classify (dbufOperand (lenOperand s) s) s.target s.ident s.seq)) s

/-- VALIDATE (42_probe R165). -/
def execValidate (s : State) : Host.Outcome State Fault Refusal := runCommand .validate id validateStep s

/-! ### The PROBE command -/

/-- What PROBE adds to acceptance (42_probe R171). -/
def startProbe (s : State) : State :=
  issue .openReq
    { s with presult := .none, latency := 0#32, elapsed := 0#32, rxlen := 0#16, pstate := .opening, treq := .openReq }

/-- A probe outcome is decided (10_state R48): it waits in PRES for the release. -/
def decideOutcome (r : ProbeResult) (s : State) : State := { s with pres := r, pstate := .releasing }

/-- OPEN_RSP(ok = 1) (42_probe R172). -/
def openSucceeds (s : State) : State :=
  let s' := { s with treq := .none, handle := true }
  match composeMsg s.ident s.seq with
  | none => decideOutcome .protocolError s'
  | some (M, _) =>
    issue (.send s.target M) { storeBytes txbufBase M s' with treq := .send, pstate := .sending }

/-- OPEN_RSP(ok = 0) (42_probe R173): no handle was acquired, so no CLOSE is issued. -/
def openFails (s : State) : State :=
  finish .none { s with treq := .none, presult := .socketError, latency := 0#32, pstate := .idle }

/-- SEND_RSP(ok) (42_probe R174). -/
def sendAnswered (ok : Bool) (s : State) : State :=
  if ok then { s with treq := .none, t0 := s.time, pstate := .sent }
  else decideOutcome .socketError { s with treq := .none }

/-- RX(d) (42_probe R175): a datagram after the window has closed is discarded; else it is accepted, and RXBUF keeps its
first RXBUF_BYTES bytes (10_state R44). -/
def datagramArrives (d : List Byte) (s : State) : State :=
  if expired s then s
  else
    { storeBytes rxbufBase (d.take s.params.rxbufBytes) s with
      elapsed := (elapsedTicks s).setWidth 32
      rxlen := BitVec.ofNat 16 d.length
      pstate := .received }

/-- FAULT (42_probe R177): expiry has priority. -/
def transportFaults (s : State) : State := if expired s then s else decideOutcome .socketError s

/-- Validation (42_probe R179). -/
def validateDatagram (s : State) : State :=
  match classifyLen (storedDatagram s) s.rxlen.toNat s.target s.ident s.seq with
  | .matched _ _ => decideOutcome .success s
  | .wrong => decideOutcome .wrongAnswer s

/-- The LATENCY that a probe ending in `r` publishes (42_probe R178). -/
def publishedLatency (r : ProbeResult) (s : State) : Word :=
  if r = .success then BitVec.ofNat 32 (latencyMs s.params.ticksPerMs s.elapsed.toNat) else 0#32

/-- Release and completion (42_probe R178). -/
def releaseProbe (s : State) : State :=
  finish .none
    (issue .close
      { s with handle := false, presult := s.pres, latency := publishedLatency s.pres s, pstate := .idle })

/-- The ENGINE steps of PROBE (42_probe R176, R178, R179). While the sequencer waits for TRANSPORT, or for a datagram within
the window, no ENGINE step is enabled and the turn changes nothing (R181, log 2). -/
def probeStep (s : State) : State :=
  match s.pstate with
  | .idle => s
  | .opening => s
  | .sending => s
  | .sent => if expired s then decideOutcome .timedOut s else s
  | .received => validateDatagram s
  | .releasing => releaseProbe s

/-- PROBE (42_probe R170): its acceptance and its ENGINE steps. Its TRANSPORT steps are `transportStep`. -/
def execProbe (s : State) : Host.Outcome State Fault Refusal := runCommand .probe startProbe probeStep s

/-- The engine's reaction to a TRANSPORT message (42_probe R180 (c), (d)): OPEN_RSP and SEND_RSP only for the outstanding
request, RX (of at most 65535 bytes, 30_encoding R108) and FAULT only in SENT. In every other state TRANSPORT has no step
(R180 (e)), and the message changes nothing (log 2). -/
def transportStep (m : TransportMsg) (s : State) : State :=
  match m with
  | .openRsp ok =>
    if s.pstate = .opening ∧ s.treq = .openReq then (if ok then openSucceeds s else openFails s) else s
  | .sendRsp ok => if s.pstate = .sending ∧ s.treq = .send then sendAnswered ok s else s
  | .rx d => if s.pstate = .sent ∧ d.length ≤ 65535 then datagramArrives d s else s
  | .fault => if s.pstate = .sent then transportFaults s else s

end Sys2Proof.Machine
end

