-- ==== Sys2Proof/Machine/Dispatch.lean ====
section
/-! DEFINITION. One arm per command. `exec i s` is the next step of command `i` in state `s`: its presentation while the
engine is idle, its ENGINE step while it is busy (log 3). -/

namespace Sys2Proof.Machine

def exec (i : Instr) (s : State) : Host.Outcome State Fault Refusal :=
  match i with
  | .foldsum => Sys2Proof.Machine.execFoldsum s
  | .cksum => Sys2Proof.Machine.execCksum s
  | .compose => Sys2Proof.Machine.execCompose s
  | .parse => Sys2Proof.Machine.execParse s
  | .validate => Sys2Proof.Machine.execValidate s
  | .probe => Sys2Proof.Machine.execProbe s

end Sys2Proof.Machine
end

