-- ==== Sys2Proof/Machine/Flags.lean ====
section
/-! DEFINITION. The codes of the status fields and the register words built from them. The IEE has no arithmetic flags
(10_state R50): its only status bits are the fields of STATUS. -/

namespace Sys2Proof.Machine

/-- STATUS.ERR codes (30_encoding R105). -/
def errCode : ErrCode → BitVec 4
  | .none => 0
  | .invalidLength => 1
  | .protocol => 2
  | .illegalCmd => 3
  | .halted => 4

/-- PSTATE codes (30_encoding R106). -/
def pstateCode : PState → BitVec 3
  | .idle => 0
  | .opening => 1
  | .sending => 2
  | .sent => 3
  | .received => 4
  | .releasing => 5

/-- PRESULT tag codes (30_encoding R104). -/
def resultCode : ProbeResult → BitVec 3
  | .none => 0
  | .success => 1
  | .timedOut => 2
  | .wrongAnswer => 3
  | .socketError => 4
  | .protocolError => 5

/-- STATUS as the host reads it (10_state R24), from bit 31 down to bit 0. -/
def statusWord (s : State) : Word :=
  (0#12 ++ BitVec.ofBool s.handle ++ pstateCode s.pstate ++ 0#4 ++ errCode s.err ++ 0#3 ++ BitVec.ofBool s.fatal ++
    BitVec.ofBool s.ovr ++ BitVec.ofBool s.rv ++ BitVec.ofBool s.done ++ BitVec.ofBool s.busy).cast rfl

/-- CTRL as the host reads it (10_state R23). -/
def ctrlWord (s : State) : Word := (0#31 ++ BitVec.ofBool s.ie).cast rfl

/-- PRESULT as the host reads it (10_state R38). -/
def presultWord (s : State) : Word := (0#29 ++ resultCode s.presult).cast rfl

/-- The output line `irq` (10_state R49, 60_exceptions R220). -/
def irq (s : State) : Bool := s.ie && s.done

end Sys2Proof.Machine
end

