-- ==== Sys2Proof/Machine/HostPort.lean ====
section
/-! DEFINITION. The host port (20_memory R60 to R67) and the presentation of a command word (60_exceptions R212). -/

namespace Sys2Proof.Machine

/-- Whether an address lies in the DBUF window (20_memory R62). -/
def inDbuf (s : State) (a : Nat) : Bool := decide (dbufBase ≤ a ∧ a < dbufBase + s.params.dbufBytes)

/-- Whether an address lies in the RXBUF window (20_memory R62). -/
def inRxbuf (s : State) (a : Nat) : Bool := decide (rxbufBase ≤ a ∧ a < rxbufBase + s.params.rxbufBytes)

/-- Whether an address lies in the TXBUF window (20_memory R62). -/
def inTxbuf (a : Nat) : Bool := decide (txbufBase ≤ a ∧ a < txbufBase + 8)

/-- The buffer word at an aligned host-port address (20_memory R64). -/
def bufferWord (s : State) (a : Nat) : Word :=
  word4 (readByte s a) (readByte s (a + 1)) (readByte s (a + 2)) (readByte s (a + 3))

/-- The registers of 10_state R21 as the host reads them, reserved bits 0 (R22); CMD and every reserved address read 0. -/
def registerWord (s : State) (a : Nat) : Word :=
  if a = 0x000 then ctrlWord s
  else if a = 0x008 then statusWord s
  else if a = 0x00C then s.len.setWidth 32
  else if a = 0x010 then s.ident.setWidth 32
  else if a = 0x014 then s.seq.setWidth 32
  else if a = 0x018 then s.target
  else if a = 0x01C then s.timeout
  else if a = 0x020 then s.result
  else if a = 0x024 then presultWord s
  else if a = 0x028 then s.latency
  else if a = 0x02C then s.elapsed
  else if a = 0x030 then s.rxlen.setWidth 32
  else if a = 0x034 then s.time.extractLsb' 0 32
  else if a = 0x038 then s.time.extractLsb' 32 32
  else 0#32

/-- `MemRead(addr, 4)` (20_memory R62): what a host READ answers. A READ changes no state. -/
def hostRead (s : State) (addr : BitVec 12) : Word :=
  let a := addr.toNat
  if a % 4 ≠ 0 then 0#32
  else if inDbuf s a || inRxbuf s a || inTxbuf a then bufferWord s a
  else registerWord s a

/-- Presenting the command word `w` (60_exceptions R212). The accepted and the HALTED case are the command's own meaning;
an illegal word is rejected, with HALTED before ILLEGAL_CMD (60_exceptions R216 (1)). -/
def presentWord (w : Word) (s : State) : Host.Outcome State Fault Refusal :=
  if s.busy then .next { s with ovr := true }
  else
    match decode w with
    | .ok i => exec i s
    | .error _ => .next (reject (if s.fatal then .halted else .illegalCmd) s)

/-- The addresses whose WRITE is ignored while BUSY = 1 (20_memory R63, R65): CMD, the operand registers and DBUF. -/
def frozenWhileBusy (s : State) (a : Nat) : Bool :=
  decide (a = 0x004 ∨ a = 0x00C ∨ a = 0x010 ∨ a = 0x014 ∨ a = 0x018 ∨ a = 0x01C) || inDbuf s a

/-- A WRITE to an operand register or to a DBUF word (20_memory R63). -/
def writeOperand (a : Nat) (v : Word) (s : State) : State :=
  if a = 0x00C then { s with len := v.setWidth 16 }
  else if a = 0x010 then { s with ident := v.setWidth 16 }
  else if a = 0x014 then { s with seq := v.setWidth 16 }
  else if a = 0x018 then { s with target := v }
  else if a = 0x01C then { s with timeout := v }
  else storeBytes a (wordBytes v) s

/-- `MemWrite(addr, 4, v)` (20_memory R63). -/
def hostWrite (addr : BitVec 12) (v : Word) (s : State) : Host.Outcome State Fault Refusal :=
  let a := addr.toNat
  if a % 4 ≠ 0 then .next s
  else if a = 0x000 then .next { s with ie := v.getLsbD 0 }
  else if a = 0x008 then .next (acknowledge v s)
  else if frozenWhileBusy s a then
    if s.busy then .next { s with ovr := true }
    else if a = 0x004 then presentWord v s
    else .next (writeOperand a v s)
  else .next s

end Sys2Proof.Machine
end

