-- ==== Sys2Proof/Machine/Agents.lean ====
section
/-! DEFINITION. The atomic steps of the four agents (00_scope R7) and of reset (70_reset_and_hazards R240), and which of them
comes next. -/

namespace Sys2Proof.Machine

/-- A HOST step (20_memory R61): a READ answers one word and changes nothing else. -/
def hostStep (t : HostTxn) (s : State) : Host.Outcome State Fault Refusal :=
  match t with
  | .read addr => .next { s with rdata := some (hostRead s addr) }
  | .write addr v => hostWrite addr v s

/-- An ENGINE step: the command CUROP names takes its step (40_checksum, the template). None is enabled while BUSY = 0
(60_exceptions R227) or FATAL = 1 (R215): the turn then changes nothing (log 2). -/
def engineStep (s : State) : Host.Outcome State Fault Refusal :=
  if s.busy && !s.fatal then
    match decodeOp s.curop with
    | some i => exec i s
    | none => .fault .curopNamesNoCommand
  else .next s

/-- A TIMEBASE step (10_state R36). -/
def timebaseStep (s : State) : State := { s with time := s.time + 1#64 }

/-- Reset (70_reset_and_hazards R240): a held handle gets a CLOSE, and every state takes its reset value. The buffers hold
unspecified bytes again, so a new draw of them begins. What is not the IEE's state goes on: the parameters, the decided
steps, the count of steps (log 5). -/
def resetStep (s : State) : State :=
  { State.reset with
    params := s.params
    issued := if s.handle then some .close else none
    agenda := s.agenda
    draws := s.draws
    epoch := s.epoch + 1 }

/-- The atomic step of one agent (00_scope R7). -/
def agentStep (e : Event) (s : State) : Host.Outcome State Fault Refusal :=
  match e with
  | .host t => hostStep t s
  | .engine => engineStep s
  | .transport m => .next (transportStep m s)
  | .tick => .next (timebaseStep s)
  | .reset => .next (resetStep s)

/-- Which agent moves next: the first step of the agenda; with none decided, a FREE VALUE, so that every interleaving is
admitted (20_memory R73, 60_exceptions R216 (4); log 1). -/
def nextEvent (s : State) : Event :=
  match s.agenda with
  | e :: _ => e
  | [] => Config.environment s.draws

/-- What every step does beside the agent's own: it takes the event off the agenda, counts the draw and clears the outputs of
the step before. -/
def beginStep (s : State) : State :=
  { s with agenda := s.agenda.tail, draws := s.draws + 1, issued := none, rdata := none }

end Sys2Proof.Machine
end

