-- ==== Sys2Proof/Machine/Step.lean ====
section
/-! DEFINITION. One step of the machine: one atomic step of one agent (20_memory R73). -/

namespace Sys2Proof.Machine

/-- One atomic step of the agent whose turn it is. -/
def step (s : State) : Host.Outcome State Fault Refusal := agentStep (nextEvent s) (beginStep s)

/-- The IEE fetches no instruction (20_memory R78): a command word reaches it as a host WRITE to CMD (10_state R24). So the
next step becomes a host WRITE of `w` to CMD, to an engine that is idle and not halted, which is all that presenting it
takes (60_exceptions R212; log 3). -/
def State.withFetchWord (s : State) (nbits w : Nat) : State :=
  { s with
    busy := false
    fatal := false
    agenda := .host (.write 0x004#12 (BitVec.ofNat 32 (w % 2 ^ nbits))) :: s.agenda }

end Sys2Proof.Machine
end

