-- ==== Sys2Proof/Safety.lean ====
section
/-! DEFINITION. What holds of the states a run reaches, in the terms the statements use, and the reference functions the spec
gives beside its definitions. -/

namespace Sys2Proof.Machine

/-- The engine is not halted. A claim about a program takes this as a premise or proves it (60_exceptions R215, 93 I17). -/
def State.notHalted (s : State) : Prop := s.fatal = false

/-- An address of the DBUF, TXBUF or RXBUF window (20_memory R62, R72). -/
def inBuffer (s : State) (a : Nat) : Bool := inDbuf s a || inTxbuf a || inRxbuf s a

/-- The buffers: legal capacities (00_scope R8), the memory in its canonical form, and no byte outside a window. -/
structure MemoryInv (s : State) : Prop where
  params : s.params.wf = true
  canonical : Memory.wf s.mem = true
  windows : ∀ c ∈ s.mem, inBuffer s c.1 = true

/-- The sequencer and the status fields, as the rules of 10_state sections 2 and 7 relate them. -/
structure SequencerInv (s : State) : Prop where
  /-- Acceptance clears DONE, RV and ERR (R26, R27, R30), and only completion, which clears BUSY, sets them. -/
  busyClean : s.busy = true → s.done = false ∧ s.rv = false ∧ s.err = .none ∧ s.fatal = false
  /-- While BUSY = 1, CUROP holds the opcode of a command (R45). -/
  curopLegal : s.busy = true → ∃ i, s.curop = opcode i
  /-- PSTATE is IDLE exactly when no PROBE is in progress (R31). -/
  probing : s.pstate ≠ .idle ↔ s.busy = true ∧ s.curop = opcode .probe
  /-- HANDLE is 1 from the successful open to the release (R32). -/
  handleHeld : s.handle = true ↔ s.pstate = .sending ∨ s.pstate = .sent ∨ s.pstate = .received ∨ s.pstate = .releasing
  /-- TREQ is OPEN exactly in OPENING (R47, 42_probe R171 to R173). -/
  openOutstanding : s.treq = .openReq ↔ s.pstate = .opening
  /-- TREQ is SEND exactly in SENDING (R47, 42_probe R172, R174). -/
  sendOutstanding : s.treq = .send ↔ s.pstate = .sending
  /-- After InvalidLengthError, ERR is INVALID_LENGTH or HALTED and RV is 0 (R29, R30, 60_exceptions R214, R215). -/
  halted : s.fatal = true → (s.err = .invalidLength ∨ s.err = .halted) ∧ s.rv = false

/-- The probe's result registers (10_state R38 to R41, R48; 42_probe R185, R187). -/
structure ProbeInv (s : State) : Prop where
  /-- Nothing is published while a PROBE is in progress (70_reset_and_hazards R250). -/
  unpublished : s.pstate ≠ .idle → s.presult = .none ∧ s.latency = 0#32
  /-- A datagram was accepted within the window (42_probe R185). -/
  inWindow : s.pstate ≠ .idle → s.elapsed.toNat ≤ s.timeout.toNat
  /-- No datagram has been accepted before RECEIVED (R40, R41). -/
  noDatagramYet : s.pstate = .opening ∨ s.pstate = .sending ∨ s.pstate = .sent → s.elapsed = 0#32 ∧ s.rxlen = 0#16
  /-- A decided outcome is one of the five (R48), and only SUCCESS and WRONG_ANSWER have a datagram (42_probe R189). -/
  decided : s.pstate = .releasing →
    s.pres ≠ .none ∧ (s.pres ≠ .success → s.pres ≠ .wrongAnswer → s.elapsed = 0#32 ∧ s.rxlen = 0#16)
  /-- LATENCY is latencyMs(ELAPSED) on SUCCESS and 0 otherwise (R39, 42_probe R187). -/
  latency : s.latency =
    if s.presult = .success then BitVec.ofNat 32 (latencyMs s.params.ticksPerMs s.elapsed.toNat) else 0#32
  /-- A published outcome other than SUCCESS and WRONG_ANSWER has no datagram (42_probe R189). -/
  published : s.pstate = .idle → s.presult ≠ .success → s.presult ≠ .wrongAnswer → s.elapsed = 0#32 ∧ s.rxlen = 0#16

/-- The 16-bit end-around-carry adder of 40_checksum R124 (b). -/
def endAroundAdd (acc w : Nat) : Nat := if 0x10000 ≤ acc + w then acc + w - 0xFFFF else acc + w

/-- The accumulator of R124 (b) run over the big-endian 16-bit words of a byte sequence. -/
def endAroundSum (acc : Nat) : List Byte → Nat
  | b0 :: b1 :: rest => endAroundSum (endAroundAdd acc (be16 b0 b1).toNat) rest
  | _ => acc

/-- `reply(id, seq)` of 41_codec R147: the Echo Reply with its checksum recomputed. -/
def replyMsg (id seq : Half) : List Byte := echoMsg typeReply (checksum (echoMsg typeReply 0#16 id seq)) id seq

/-- Byte sequence `B` with bit `k` of byte `i` flipped (41_codec R148). -/
def flipBit (B : List Byte) (i k : Nat) : List Byte := B.modify i fun b => b ^^^ (1#8 <<< k)

/-- `k` steps of the machine, stopping at the first fault or refusal, as `Host.Core.run` takes them. -/
def runSteps : Nat → State → Host.Outcome State Fault Refusal
  | 0, s => .next s
  | k + 1, s =>
    match step s with
    | .next s' => runSteps k s'
    | .fault r => .fault r
    | .refused r => .refused r

/-- The events that can end a wait for TRANSPORT (42_probe R180, R181; 70_reset_and_hazards R240). -/
def isAnswerOrReset : Event → Bool
  | .host _ => false
  | .engine => false
  | .transport (.openRsp _) => true
  | .transport (.sendRsp _) => true
  | .transport (.rx _) => false
  | .transport .fault => false
  | .tick => false
  | .reset => true

/-- The moves of the probe sequencer: the edges of the paths of 42_probe R189, with OPENING as the first state and IDLE as
the last. -/
def sequencerEdge : PState → PState → Bool
  | .idle, .opening => true
  | .opening, .idle => true
  | .opening, .releasing => true
  | .opening, .sending => true
  | .sending, .releasing => true
  | .sending, .sent => true
  | .sent, .releasing => true
  | .sent, .received => true
  | .received, .releasing => true
  | .releasing, .idle => true
  | _, _ => false

end Sys2Proof.Machine
end

