-- ==== Sys2Proof/Certificates/Slice0/Obligations.lean ====
section
/-! DEFINITION. The statements for the provers. Each docstring names the rules of spec/ it formalises. -/

open Sys2Proof Sys2Proof.Machine

/-! ### Encoding -/

/-- 30_encoding R91: the six words decode to the six commands, and no other word decodes. Decoding what `encode` writes
gives the command back. -/
def Obligations.SixWordsDecodeAndNoOther : Prop :=
  (∀ (w : Word) (i : Instr), decode w = .ok i ↔ w = encode i) ∧
  encode .foldsum = 0x00000001#32 ∧ encode .cksum = 0x00000002#32 ∧ encode .compose = 0x00000003#32 ∧
  encode .parse = 0x00000004#32 ∧ encode .validate = 0x00000005#32 ∧ encode .probe = 0x00000006#32

/-- 30_encoding R91 and R92 on words written out from the table: the six commands, and illegal words of each kind. -/
def Obligations.SpecWordsDecode : Prop :=
  decode 0x00000001#32 = .ok .foldsum ∧ decode 0x00000002#32 = .ok .cksum ∧ decode 0x00000003#32 = .ok .compose ∧
  decode 0x00000004#32 = .ok .parse ∧ decode 0x00000005#32 = .ok .validate ∧ decode 0x00000006#32 = .ok .probe ∧
  decode 0x00000000#32 = .error .illegalOpcode ∧ decode 0x00000007#32 = .error .illegalOpcode ∧
  decode 0x000000FF#32 = .error .illegalOpcode ∧ decode 0x00000106#32 = .error .reservedNotZero

/-! ### Steps -/

/-- 00_scope R7, 20_memory R73, 60_exceptions R216 (4): a step is one atomic step of the agent whose turn it is; with nothing
decided the turn is a free value. The agenda and the counter are the model's (log 1). -/
def Obligations.StepPerformsTheNextAgentStep : Prop :=
  ∀ (s : State),
    (∀ (e : Event) (rest : List Event), s.agenda = e :: rest →
      step s = agentStep e { s with agenda := rest, draws := s.draws + 1, issued := none, rdata := none }) ∧
    (s.agenda = [] →
      step s = agentStep (Config.environment s.draws) { s with draws := s.draws + 1, issued := none, rdata := none })

/-- A step runs the decoded command: a host WRITE of a command word to CMD, to an engine that is not busy, presents that
command (20_memory R63, 60_exceptions R212). The agenda is the model's (logs 1, 3). -/
def Obligations.PresentingStepRunsTheCommand : Prop :=
  ∀ (s : State) (w : Word) (i : Instr) (rest : List Event),
    s.agenda = .host (.write 0x004#12 w) :: rest → s.busy = false → decode w = .ok i →
    step s = exec i { s with agenda := rest, draws := s.draws + 1, issued := none, rdata := none }

/-- A step runs the decoded command: an ENGINE turn while BUSY = 1 executes the command CUROP names (40_checksum, the command
template). No ENGINE step is enabled while BUSY = 0 or FATAL = 1 (60_exceptions R215, R227), and that the turn then changes
nothing but the model's own fields is the model's choice (logs 1, 2). -/
def Obligations.EngineStepRunsTheCommandInCurop : Prop :=
  ∀ (s : State) (rest : List Event), s.agenda = .engine :: rest →
    (∀ (i : Instr), s.busy = true → s.fatal = false → s.curop = opcode i →
      step s = exec i { s with agenda := rest, draws := s.draws + 1, issued := none, rdata := none }) ∧
    (s.busy = false ∨ s.fatal = true →
      step s = .next { s with agenda := rest, draws := s.draws + 1, issued := none, rdata := none })

/-! ### Presentation, acceptance, rejection -/

/-- 60_exceptions R212, 20_memory R63, 42_probe R171: a host WRITE to CMD presents the word written, and presenting a word is
decided in the order BUSY, FATAL, illegal word, acceptance. -/
def Obligations.PresentationIsDecidedInOrder : Prop :=
  ∀ (w : Word) (s : State),
    agentStep (.host (.write 0x004#12 w)) s = presentWord w s ∧ hostWrite 0x004#12 w s = presentWord w s ∧
    (s.busy = true → presentWord w s = .next { s with ovr := true }) ∧
    (s.busy = false → s.fatal = true → presentWord w s = .next { s with err := .halted, done := true }) ∧
    (s.busy = false → s.fatal = false → ¬ (1 ≤ w.toNat ∧ w.toNat ≤ 6) →
      presentWord w s = .next { s with err := .illegalCmd, done := true }) ∧
    (s.busy = false → s.fatal = false → 1 ≤ w.toNat → w.toNat ≤ 5 →
      presentWord w s =
        .next { s with curop := w.extractLsb' 0 8, busy := true, done := false, rv := false, err := .none }) ∧
    (s.busy = false → s.fatal = false → w.toNat = 6 →
      presentWord w s =
        .next { s with
          curop := w.extractLsb' 0 8, busy := true, done := false, rv := false, err := .none
          presult := .none, latency := 0#32, elapsed := 0#32, rxlen := 0#16, pstate := .opening
          treq := .openReq, issued := some .openReq })

/-- 42_probe R171: PROBE acceptance clears the probe results, enters OPENING and issues OPEN. -/
def Obligations.ProbeAcceptanceOpensTransport : Prop :=
  decode 0x00000006#32 = .ok .probe ∧
  ∀ (s : State), s.busy = false → s.fatal = false →
    exec .probe s =
      .next { s with
        curop := 0x06#8, busy := true, done := false, rv := false, err := .none
        presult := .none, latency := 0#32, elapsed := 0#32, rxlen := 0#16, pstate := .opening
        treq := .openReq, issued := some .openReq }

/-! ### Host port -/

/-- 20_memory R65: while BUSY = 1 a WRITE to CMD, an operand register or a DBUF word sets OVR and nothing else; a WRITE to CTRL
or STATUS acts as it does at any time. -/
def Obligations.FrozenWritesWhileBusySetOvrOnly : Prop :=
  ∀ (s : State) (v : Word), s.busy = true →
    (∀ (addr : BitVec 12),
      (addr = 0x004#12 ∨ addr = 0x00C#12 ∨ addr = 0x010#12 ∨ addr = 0x014#12 ∨ addr = 0x018#12 ∨ addr = 0x01C#12 ∨
        (addr.toNat % 4 = 0 ∧ 0x400 ≤ addr.toNat ∧ addr.toNat < 0x400 + s.params.dbufBytes)) →
      hostWrite addr v s = .next { s with ovr := true }) ∧
    hostWrite 0x000#12 v s = .next { s with ie := v.getLsbD 0 } ∧
    hostWrite 0x008#12 v s =
      .next { s with done := s.done && !v.getLsbD 1, ovr := s.ovr && !v.getLsbD 3 }

/-- 10_state R23, R24, 60_exceptions R218: a WRITE to CTRL sets IE, and a WRITE to STATUS clears DONE and OVR where it writes
1, in every state; the reads show it. -/
def Obligations.ControlAndStatusWritesActAtAnyTime : Prop :=
  ∀ (s : State) (v : Word),
    (∃ t, hostWrite 0x000#12 v s = .next t ∧ t = { s with ie := v.getLsbD 0 } ∧
      hostRead t 0x000#12 = v &&& 0x1#32) ∧
    (∃ t, hostWrite 0x008#12 v s = .next t ∧
      t = { s with done := s.done && !v.getLsbD 1, ovr := s.ovr && !v.getLsbD 3 } ∧
      hostRead t 0x008#12 = hostRead s 0x008#12 &&& ~~~ (v &&& 0xA#32))

/-- 10_state R22, R33 to R35, 20_memory R63: a WRITE to an operand register while BUSY = 0 lands, and reads back with the
reserved bits 0; nothing else changes. -/
def Obligations.OperandWritesReadBack : Prop :=
  ∀ (s : State) (v : Word), s.busy = false →
    (∃ t, hostWrite 0x00C#12 v s = .next t ∧ t = { s with len := v.extractLsb' 0 16 } ∧
      hostRead t 0x00C#12 = v &&& 0xFFFF#32) ∧
    (∃ t, hostWrite 0x010#12 v s = .next t ∧ t = { s with ident := v.extractLsb' 0 16 } ∧
      hostRead t 0x010#12 = v &&& 0xFFFF#32) ∧
    (∃ t, hostWrite 0x014#12 v s = .next t ∧ t = { s with seq := v.extractLsb' 0 16 } ∧
      hostRead t 0x014#12 = v &&& 0xFFFF#32) ∧
    (∃ t, hostWrite 0x018#12 v s = .next t ∧ t = { s with target := v } ∧ hostRead t 0x018#12 = v) ∧
    (∃ t, hostWrite 0x01C#12 v s = .next t ∧ t = { s with timeout := v } ∧ hostRead t 0x01C#12 = v)

/-- 20_memory R64, R63: a READ of a buffer word shows the byte at the lowest address in bits 31:24, and so on; a DBUF word
written while BUSY = 0 lands in the same order, reads back as it was written, and changes no other byte and nothing else. -/
def Obligations.BufferWordsAreBigEndian : Prop :=
  ∀ (s : State) (addr : BitVec 12), s.params.wf = true → addr.toNat % 4 = 0 →
    (0x400 ≤ addr.toNat ∧ addr.toNat < 0x400 + s.params.dbufBytes ∨ 0x040 ≤ addr.toNat ∧ addr.toNat < 0x048 ∨
        0x800 ≤ addr.toNat ∧ addr.toNat < 0x800 + s.params.rxbufBytes →
      hostRead s addr =
        readByte s addr.toNat ++ readByte s (addr.toNat + 1) ++ readByte s (addr.toNat + 2) ++
          readByte s (addr.toNat + 3)) ∧
    ∀ (v : Word), s.busy = false → 0x400 ≤ addr.toNat → addr.toNat < 0x400 + s.params.dbufBytes →
      ∃ t, hostWrite addr v s = .next t ∧ hostRead t addr = v ∧
        readByte t addr.toNat = v.extractLsb' 24 8 ∧ readByte t (addr.toNat + 1) = v.extractLsb' 16 8 ∧
        readByte t (addr.toNat + 2) = v.extractLsb' 8 8 ∧ readByte t (addr.toNat + 3) = v.extractLsb' 0 8 ∧
        (∀ b, b < addr.toNat ∨ addr.toNat + 4 ≤ b → readByte t b = readByte s b) ∧
        { t with mem := s.mem } = s

/-- 20_memory R66, R67: a misaligned or reserved address reads 0, and a WRITE to it changes nothing. -/
def Obligations.ReservedAndMisalignedAccess : Prop :=
  ∀ (s : State) (addr : BitVec 12), s.params.wf = true →
    (addr.toNat % 4 ≠ 0 ∨ addr.toNat = 0x03C ∨ (0x048 ≤ addr.toNat ∧ addr.toNat ≤ 0x3FF) ∨
      (0x400 + s.params.dbufBytes ≤ addr.toNat ∧ addr.toNat ≤ 0x7FF) ∨
      (0x800 + s.params.rxbufBytes ≤ addr.toNat ∧ addr.toNat ≤ 0xBFF) ∨ 0xC00 ≤ addr.toNat) →
    hostRead s addr = 0#32 ∧ ∀ (v : Word), hostWrite addr v s = .next s

/-- 10_state R21, R43, R44, 20_memory R63: a WRITE to a read-only register, to TXBUF or to RXBUF changes nothing, OVR
included, whether the engine is busy or not. -/
def Obligations.ReadOnlyAddressesIgnoreWrites : Prop :=
  ∀ (s : State) (addr : BitVec 12) (v : Word), s.params.wf = true →
    (0x020 ≤ addr.toNat ∧ addr.toNat ≤ 0x038 ∨ 0x040 ≤ addr.toNat ∧ addr.toNat ≤ 0x047 ∨
      0x800 ≤ addr.toNat ∧ addr.toNat < 0x800 + s.params.rxbufBytes) →
    hostWrite addr v s = .next s

/-- 20_memory R62, R71, 10_state R20, R51: a READ changes nothing but the model's answer wire, and what it answers does not
depend on a hidden cell nor on the model's own wires and agenda (logs 1, 7); CMD reads 0 and the result registers read as
they stand, PRESULT with the codes of 30_encoding R104 (10_state R38). -/
def Obligations.ReadsChangeNothingAndSeeNoHiddenCell : Prop :=
  ∀ (s : State) (addr : BitVec 12),
    agentStep (.host (.read addr)) s = .next { s with rdata := some (hostRead s addr) } ∧
    (∀ (curop : Byte) (t0 : Tick) (treq : TReq) (pres : ProbeResult) (issued : Option TransportReq) (rdata : Option Word)
        (agenda : List Event),
      hostRead { s with
        curop := curop, t0 := t0, treq := treq, pres := pres, issued := issued, rdata := rdata, agenda := agenda } addr =
        hostRead s addr) ∧
    hostRead s 0x004#12 = 0#32 ∧ hostRead s 0x020#12 = s.result ∧ hostRead s 0x024#12 = 0#29 ++ resultCode s.presult ∧
    hostRead s 0x028#12 = s.latency ∧ hostRead s 0x02C#12 = s.elapsed ∧ hostRead s 0x030#12 = 0#16 ++ s.rxlen ∧
    resultCode .none = 0#3 ∧ resultCode .success = 1#3 ∧ resultCode .timedOut = 2#3 ∧ resultCode .wrongAnswer = 3#3 ∧
    resultCode .socketError = 4#3 ∧ resultCode .protocolError = 5#3

/-- 10_state R24, R22, R30, R31, 30_encoding R105, R106: the layout of STATUS as the host reads it, and the codes of ERR and
PSTATE. -/
def Obligations.StatusWordLayout : Prop :=
  (∀ (s : State), ∃ w, hostRead s 0x008#12 = w ∧
    w.getLsbD 0 = s.busy ∧ w.getLsbD 1 = s.done ∧ w.getLsbD 2 = s.rv ∧ w.getLsbD 3 = s.ovr ∧ w.getLsbD 4 = s.fatal ∧
    w.extractLsb' 5 3 = 0#3 ∧ w.extractLsb' 8 4 = errCode s.err ∧ w.extractLsb' 12 4 = 0#4 ∧
    w.extractLsb' 16 3 = pstateCode s.pstate ∧ w.getLsbD 19 = s.handle ∧ w.extractLsb' 20 12 = 0#12) ∧
  errCode .none = 0#4 ∧ errCode .invalidLength = 1#4 ∧ errCode .protocol = 2#4 ∧ errCode .illegalCmd = 3#4 ∧
  errCode .halted = 4#4 ∧
  pstateCode .idle = 0#3 ∧ pstateCode .opening = 1#3 ∧ pstateCode .sending = 2#3 ∧ pstateCode .sent = 3#3 ∧
  pstateCode .received = 4#3 ∧ pstateCode .releasing = 5#3

/-- 10_state R49, 60_exceptions R212, R213, R218, R220: `irq` follows IE and DONE: completion and rejection raise it when IE = 1,
acceptance, a W1C write of DONE and IE = 0 lower it. -/
def Obligations.InterruptFollowsDone : Prop :=
  ∀ (s : State) (i : Instr) (e : ErrCode) (v : Word),
    (irq s = true ↔ s.ie = true ∧ s.done = true) ∧ irq { s with ie := false } = false ∧
    irq (finish e s) = s.ie ∧ irq (reject e s) = s.ie ∧ irq (accept i s) = false ∧
    (v.getLsbD 1 = true → irq (acknowledge v s) = false) ∧
    (v.getLsbD 1 = false → irq (acknowledge v s) = irq s)

/-- 10_state R36: a TIMEBASE step adds one tick and changes nothing else, nothing else but reset writes TIME, and the host
reads its two halves. -/
def Obligations.TimeMovesByTicksAndReset : Prop :=
  (∀ (s : State), agentStep .tick s = .next { s with time := s.time + 1#64 }) ∧
  (∀ (s t : State), step s = .next t →
    (nextEvent s = .tick → t.time = s.time + 1#64) ∧
    (nextEvent s = .reset → t.time = 0#64) ∧
    (nextEvent s ≠ .tick → nextEvent s ≠ .reset → t.time = s.time)) ∧
  ∀ (s : State), hostRead s 0x034#12 = s.time.extractLsb' 0 32 ∧ hostRead s 0x038#12 = s.time.extractLsb' 32 32

/-- 10_state R28: OVR is set by a WRITE ignored because BUSY = 1 and by nothing else, and cleared only by a W1C write or by
reset. -/
def Obligations.OverrunIsSetByIgnoredWritesOnly : Prop :=
  ∀ (s t : State), step s = .next t →
    (s.ovr = false → t.ovr = true → s.busy = true ∧
      ∃ (addr : BitVec 12) (v : Word), nextEvent s = .host (.write addr v) ∧ addr.toNat % 4 = 0 ∧
        (addr.toNat = 0x004 ∨ addr.toNat = 0x00C ∨ addr.toNat = 0x010 ∨ addr.toNat = 0x014 ∨ addr.toNat = 0x018 ∨
          addr.toNat = 0x01C ∨ (0x400 ≤ addr.toNat ∧ addr.toNat < 0x400 + s.params.dbufBytes))) ∧
    (∀ (addr : BitVec 12) (v : Word), s.busy = true → nextEvent s = .host (.write addr v) → addr.toNat % 4 = 0 →
      (addr.toNat = 0x004 ∨ addr.toNat = 0x00C ∨ addr.toNat = 0x010 ∨ addr.toNat = 0x014 ∨ addr.toNat = 0x018 ∨
        addr.toNat = 0x01C ∨ (0x400 ≤ addr.toNat ∧ addr.toNat < 0x400 + s.params.dbufBytes)) → t.ovr = true) ∧
    (s.ovr = true → t.ovr = false →
      nextEvent s = .reset ∨ ∃ (v : Word), nextEvent s = .host (.write 0x008#12 v) ∧ v.getLsbD 3 = true)

/-- 10_state R29, 60_exceptions R215: InvalidLengthError sets FATAL, and only an ENGINE step that reports it does; only reset
clears it; and while it is set every command presented to the idle engine is rejected with HALTED. -/
def Obligations.FatalIsStickyUntilReset : Prop :=
  (∀ (s t : State), step s = .next t →
    (s.fatal = true → t.fatal = false → nextEvent s = .reset) ∧
    (s.fatal = false → t.fatal = true →
      nextEvent s = .engine ∧ s.busy = true ∧ t.busy = false ∧ t.done = true ∧ t.err = .invalidLength ∧
        t.result = s.result)) ∧
  (∀ (s : State) (n : Nat), (raise (.invalidLength n) s).fatal = true) ∧
  ∀ (s : State) (w : Word), s.fatal = true → s.busy = false →
    presentWord w s = .next { s with err := .halted, done := true }

/-! ### Checksum unit -/

/-- 40_checksum R123: FOLDSUM, with every other part of the state unchanged. -/
def Obligations.FoldsumWritesFoldedSum : Prop :=
  decode 0x00000001#32 = .ok .foldsum ∧
  ∀ (s : State), s.busy = true →
    (s.len.toNat ≤ s.params.dbufBytes → s.len.toNat % 2 = 0 →
      exec .foldsum s =
        .next { s with
          result := BitVec.ofNat 32 (foldedSum ((List.range s.len.toNat).map fun k => readByte s (0x400 + k)))
          err := .none, busy := false, done := true }) ∧
    (s.params.dbufBytes < s.len.toNat ∨ s.len.toNat % 2 = 1 →
      exec .foldsum s = .next { s with fatal := true, err := .invalidLength, busy := false, done := true })

/-- 40_checksum R125: CKSUM, with every other part of the state unchanged. -/
def Obligations.CksumWritesChecksum : Prop :=
  decode 0x00000002#32 = .ok .cksum ∧
  ∀ (s : State), s.busy = true →
    (s.len.toNat ≤ s.params.dbufBytes → s.len.toNat % 2 = 0 →
      exec .cksum s =
        .next { s with
          result := 0#16 ++ checksum ((List.range s.len.toNat).map fun k => readByte s (0x400 + k))
          err := .none, busy := false, done := true }) ∧
    (s.params.dbufBytes < s.len.toNat ∨ s.len.toNat % 2 = 1 →
      exec .cksum s = .next { s with fatal := true, err := .invalidLength, busy := false, done := true })

/-- The range and the closed form of the folded sum, which the spec derives in 40_checksum R122. -/
def Obligations.FoldedSumClosedForm : Prop :=
  ∀ (B : List Byte),
    (wordSum B = 0 → foldedSum B = 0) ∧
    (0 < wordSum B → foldedSum B = (wordSum B - 1) % 0xFFFF + 1) ∧
    foldedSum B < 0x10000 ∧
    (B.length % 2 = 0 → (foldedSum B = 0 ↔ ∀ b ∈ B, b = 0#8))

/-- 40_checksum R121: the checksum is the complement of the folded sum, 0xFFFF less it. -/
def Obligations.ChecksumComplementsFoldedSum : Prop :=
  ∀ (B : List Byte), 0#16 ++ checksum B = ~~~(BitVec.ofNat 32 (foldedSum B)) &&& 0xFFFF#32 ∧
    (checksum B).toNat = 0xFFFF - foldedSum B ∧ (checksum B).toNat + foldedSum B = 0xFFFF

/-- What the spec derives in 40_checksum R126: putting the checksum into a zero checksum field at an even offset makes the message fold to 0xFFFF. -/
def Obligations.ChecksumInsertionFoldsToAllOnes : Prop :=
  ∀ (A C : List Byte), A.length % 2 = 0 → C.length % 2 = 0 →
    foldedSum (A ++ halfBytes (checksum (A ++ [0#8, 0#8] ++ C)) ++ C) = 0xFFFF

/-- What the spec derives in 40_checksum R127: (a) permuting the 16-bit words, (b) inserting a zero word, (c) appending FF FF, (d) flipping a bit, and
(e) concatenating. -/
def Obligations.FoldedSumWordLaws : Prop :=
  (∀ (P Q : List (Byte × Byte)), P.Perm Q →
    foldedSum (P.flatMap fun p => [p.1, p.2]) = foldedSum (Q.flatMap fun p => [p.1, p.2])) ∧
  ∀ (B C : List Byte), B.length % 2 = 0 →
    foldedSum (B ++ C) = fold (foldedSum B + foldedSum C) ∧
    foldedSum (B ++ [0#8, 0#8] ++ C) = foldedSum (B ++ C) ∧
    (foldedSum B ≠ 0 → foldedSum (B ++ [0xFF#8, 0xFF#8]) = foldedSum B) ∧
    (foldedSum B = 0 → foldedSum (B ++ [0xFF#8, 0xFF#8]) = 0xFFFF) ∧
    (∀ (i k : Nat), foldedSum B = 0xFFFF → i < B.length → k < 8 → foldedSum (flipBit B i k) ≠ 0xFFFF)

/-- What the spec derives in 40_checksum R124 (b): the 16-bit end-around-carry adder computes the folded sum. -/
def Obligations.EndAroundCarryAgrees : Prop :=
  ∀ (B : List Byte), endAroundSum 0 B = foldedSum B

/-! ### Codec unit -/

/-- 41_codec R144, R140: COMPOSE writes the Echo Request to TXBUF and its checksum to RESULT; no other byte and nothing else
changes. -/
def Obligations.ComposeWritesTheRequest : Prop :=
  decode 0x00000003#32 = .ok .compose ∧
  ∀ (s : State), s.busy = true →
    ∃ (t : State) (c : Half), c = checksum ([0x08#8, 0x00#8, 0x00#8, 0x00#8] ++ halfBytes s.ident ++ halfBytes s.seq) ∧
      exec .compose s = .next t ∧
      (∀ k, k < 8 → readByte t (0x040 + k) =
        ([0x08#8, 0x00#8] ++ halfBytes c ++ halfBytes s.ident ++ halfBytes s.seq).getD k 0#8) ∧
      (∀ a, a < 0x040 ∨ 0x048 ≤ a → readByte t a = readByte s a) ∧
      { t with mem := s.mem } = { s with result := 0#16 ++ c, err := .none, busy := false, done := true }

/-- What the spec derives in 41_codec R143: the self-check of composeMsg never fails. -/
def Obligations.ComposeSelfCheckNeverFails : Prop :=
  ∀ (id seq : Half), ∃ (M : List Byte) (c : Half), composeMsg id seq = some (M, c) ∧
    c = checksum ([0x08#8, 0x00#8, 0x00#8, 0x00#8] ++ halfBytes id ++ halfBytes seq) ∧
    M = [0x08#8, 0x00#8] ++ halfBytes c ++ halfBytes id ++ halfBytes seq ∧ foldedSum M = 0xFFFF

/-- What the spec derives in 41_codec R142: the closed form of the composed checksum. -/
def Obligations.ComposedChecksumClosedForm : Prop :=
  ∀ (id seq : Half), ∃ (M : List Byte) (c : Half), composeMsg id seq = some (M, c) ∧
    c.toNat = 0xFFFF - fold (0x0800 + id.toNat + seq.toNat) ∧ c.toNat ≤ 0xFFFE ∧
    (c = 0#16 ↔ (0x0800 + id.toNat + seq.toNat) % 0xFFFF = 0)

/-- 41_codec R146: PARSE, with every other part of the state unchanged. -/
def Obligations.ParseWritesTheValue : Prop :=
  decode 0x00000004#32 = .ok .parse ∧
  ∀ (s : State), s.busy = true →
    (s.len.toNat = 8 →
      (∀ (id seq : Half), parseMsg ((List.range 8).map fun k => readByte s (0x400 + k)) = some (id, seq) →
        exec .parse s =
          .next { s with result := id ++ seq, rv := true, err := .none, busy := false, done := true }) ∧
      (parseMsg ((List.range 8).map fun k => readByte s (0x400 + k)) = none →
        exec .parse s =
          .next { s with result := 0#32, rv := false, err := .none, busy := false, done := true })) ∧
    (s.len.toNat ≠ 8 →
      exec .parse s = .next { s with fatal := true, err := .invalidLength, busy := false, done := true })

/-- 41_codec R141: parseMsg answers a value exactly on a well-formed Echo Reply, and then the identifier and the sequence. -/
def Obligations.ParseAcceptsExactlyWellFormedReplies : Prop :=
  ∀ (B : List Byte) (id seq : Half), B.length = 8 →
    (parseMsg B = some (id, seq) ↔
      foldedSum B = 0xFFFF ∧ B.getD 0 0#8 = 0#8 ∧ B.getD 1 0#8 = 0#8 ∧
        id.toNat = (B.getD 4 0#8).toNat * 256 + (B.getD 5 0#8).toNat ∧
        seq.toNat = (B.getD 6 0#8).toNat * 256 + (B.getD 7 0#8).toNat)

/-- What the spec derives in 41_codec R147: the round-trip law, with the recomputed and the incrementally updated checksum, and the literal reading that
parses to nothing. -/
def Obligations.ReplyRoundTrip : Prop :=
  ∀ (id seq : Half),
    parseMsg (replyMsg id seq) = some (id, seq) ∧
    ∀ (M : List Byte) (c c' c'' : Half), composeMsg id seq = some (M, c) →
      c' = checksum (echoMsg 0#8 0#16 id seq) → c''.toNat = fold (c.toNat + 0x0800) →
      parseMsg (echoMsg 0#8 c'' id seq) = some (id, seq) ∧
      (¬ (0 < id.toNat + seq.toNat ∧ (id.toNat + seq.toNat) % 0xFFFF = 0) → c'' = c') ∧
      (0 < id.toNat + seq.toNat → (id.toNat + seq.toNat) % 0xFFFF = 0 → c' = 0x0000#16 ∧ c'' = 0xFFFF#16) ∧
      foldedSum (M.set 0 0#8) = 0xF7FF ∧ parseMsg (M.set 0 0#8) = none

/-- What the spec derives in 41_codec R148: every single-bit flip of a well-formed reply parses to nothing. -/
def Obligations.SingleBitFlipIsRefused : Prop :=
  ∀ (R : List Byte) (i k : Nat), R.length = 8 → foldedSum R = 0xFFFF → R.getD 0 0#8 = 0#8 → R.getD 1 0#8 = 0#8 →
    i < 8 → k < 8 → foldedSum (flipBit R i k) ≠ 0xFFFF ∧ parseMsg (flipBit R i k) = none

/-! ### Probe unit: the validator -/

/-- 42_probe R165: VALIDATE, with every other part of the state unchanged. -/
def Obligations.ValidateWritesTheVerdict : Prop :=
  decode 0x00000005#32 = .ok .validate ∧
  ∀ (s : State), s.busy = true →
    (s.len.toNat ≤ s.params.dbufBytes →
      (∀ (id seq : Half),
        classify ((List.range s.len.toNat).map fun k => readByte s (0x400 + k)) s.target s.ident s.seq =
          .matched id seq →
        id = s.ident ∧ seq = s.seq ∧
        exec .validate s =
          .next { s with result := id ++ seq, rv := true, err := .none, busy := false, done := true }) ∧
      (classify ((List.range s.len.toNat).map fun k => readByte s (0x400 + k)) s.target s.ident s.seq = .wrong →
        exec .validate s =
          .next { s with result := 0#32, rv := false, err := .none, busy := false, done := true })) ∧
    (s.params.dbufBytes < s.len.toNat →
      exec .validate s = .next { s with fatal := true, err := .invalidLength, busy := false, done := true })

/-- 42_probe R160, 30_encoding R102: exactly which datagrams match. -/
def Obligations.ClassifyMatchesExactly : Prop :=
  ∀ (D : List Byte) (target : Word) (id seq id' seq' : Half),
    classify D target id seq = .matched id' seq' ↔
      20 ≤ D.length ∧
      D.getD 12 0#8 ++ D.getD 13 0#8 ++ D.getD 14 0#8 ++ D.getD 15 0#8 = target ∧
      (D.getD 0 0#8).toNat / 16 = 4 ∧ D.getD 9 0#8 = 1#8 ∧
      D.length = (D.getD 0 0#8).toNat % 16 * 4 + 8 ∧
      parseMsg (D.drop ((D.getD 0 0#8).toNat % 16 * 4)) = some (id', seq') ∧ id' = id ∧ seq' = seq

/-- What the spec derives in 42_probe R162: the validator reads no header byte but those of IHL, version, protocol and source address. -/
def Obligations.ClassifyReadsOnlyNamedFields : Prop :=
  ∀ (D E : List Byte) (target : Word) (id seq : Half), D.length = E.length →
    (∀ k, (k = 0 ∨ k = 9 ∨ (12 ≤ k ∧ k ≤ 15) ∨ (D.getD 0 0#8).toNat % 16 * 4 ≤ k) → D.getD k 0#8 = E.getD k 0#8) →
    classify D target id seq = classify E target id seq

/-- 42_probe R179: in RECEIVED the ENGINE step judges the bytes RXBUF kept, with RXLEN, and nothing else changes. For every legal
RXBUF_BYTES that is the verdict on the whole datagram, as the spec derives in R179 (log 14). -/
def Obligations.ValidationJudgesTheStoredDatagram : Prop :=
  (∀ (s : State), s.busy = true → s.pstate = .received →
    (∀ (id seq : Half),
      classifyLen ((List.range (min s.rxlen.toNat s.params.rxbufBytes)).map fun k => readByte s (0x800 + k))
          s.rxlen.toNat s.target s.ident s.seq = .matched id seq →
        exec .probe s = .next { s with pres := .success, pstate := .releasing }) ∧
    (classifyLen ((List.range (min s.rxlen.toNat s.params.rxbufBytes)).map fun k => readByte s (0x800 + k))
          s.rxlen.toNat s.target s.ident s.seq = .wrong →
        exec .probe s = .next { s with pres := .wrongAnswer, pstate := .releasing })) ∧
  ∀ (D : List Byte) (cap : Nat) (target : Word) (id seq : Half), 68 ≤ cap →
    classifyLen (D.take cap) D.length target id seq = classify D target id seq

/-- 42_probe R163: latencyMs is E / T rounded to the nearest integer, a tie to the even one, and at most E. It is monotone, from
which the spec derives in R187 that a SUCCESS has LATENCY at most latencyMs(TIMEOUT). -/
def Obligations.LatencyRoundsHalfToEven : Prop :=
  ∀ (T E : Nat), 0 < T →
    (2 * (E % T) < T → latencyMs T E = E / T) ∧ (T < 2 * (E % T) → latencyMs T E = E / T + 1) ∧
    (2 * (E % T) = T → latencyMs T E = E / T + E / T % 2) ∧
    2 * E ≤ 2 * (latencyMs T E * T) + T ∧ 2 * (latencyMs T E * T) ≤ 2 * E + T ∧
    (2 * E = 2 * (latencyMs T E * T) + T ∨ 2 * (latencyMs T E * T) = 2 * E + T → latencyMs T E % 2 = 0) ∧
    latencyMs T E ≤ E ∧ ∀ E', E ≤ E' → latencyMs T E ≤ latencyMs T E'

/-! ### Probe unit: the PROBE command -/

/-- 42_probe R172: OPEN_RSP(ok = 1) in OPENING composes the request into TXBUF and sends it to TARGET; no other byte and nothing
else changes. -/
def Obligations.OpenSucceedsSendsTheRequest : Prop :=
  ∀ (s : State), s.pstate = .opening → s.treq = .openReq →
    ∃ (t : State) (M : List Byte) (c : Half), composeMsg s.ident s.seq = some (M, c) ∧
      agentStep (.transport (.openRsp true)) s = .next t ∧
      (∀ k, k < 8 → readByte t (0x040 + k) = M.getD k 0#8) ∧
      (∀ a, a < 0x040 ∨ 0x048 ≤ a → readByte t a = readByte s a) ∧
      { t with mem := s.mem } =
        { s with treq := .send, handle := true, pstate := .sending, issued := some (.send s.target M) }

/-- 42_probe R173: OPEN_RSP(ok = 0) in OPENING completes the probe with SOCKET_ERROR and issues nothing. -/
def Obligations.OpenFailureIsSocketError : Prop :=
  ∀ (s : State), s.pstate = .opening → s.treq = .openReq →
    agentStep (.transport (.openRsp false)) s =
      .next { s with
        treq := .none, presult := .socketError, latency := 0#32, pstate := .idle
        err := .none, busy := false, done := true }

/-- 42_probe R174: SEND_RSP(ok) in SENDING stamps T0 and enters SENT, or decides SOCKET_ERROR. -/
def Obligations.SendAnswerStampsOrFails : Prop :=
  ∀ (s : State), s.pstate = .sending → s.treq = .send →
    agentStep (.transport (.sendRsp true)) s = .next { s with treq := .none, t0 := s.time, pstate := .sent } ∧
    agentStep (.transport (.sendRsp false)) s =
      .next { s with treq := .none, pres := .socketError, pstate := .releasing }

/-- 42_probe R175, 10_state R40, R41, R44: RX(d) in SENT. Within the window ELAPSED holds the elapsed ticks exactly, RXLEN the
length, RXBUF the first RXBUF_BYTES bytes, and no other byte and nothing else changes; after it the datagram is discarded. -/
def Obligations.DatagramAcceptedWithinWindow : Prop :=
  ∀ (s : State) (d : List Byte), s.pstate = .sent → d.length ≤ 65535 →
    (s.timeout.toNat < (s.time - s.t0).toNat → agentStep (.transport (.rx d)) s = .next s) ∧
    ((s.time - s.t0).toNat ≤ s.timeout.toNat →
      ∃ (t : State), agentStep (.transport (.rx d)) s = .next t ∧
        t.elapsed.toNat = (s.time - s.t0).toNat ∧ t.rxlen.toNat = d.length ∧
        (∀ k, k < d.length → k < s.params.rxbufBytes → readByte t (0x800 + k) = d.getD k 0#8) ∧
        (∀ a, a < 0x800 ∨ 0x800 + min d.length s.params.rxbufBytes ≤ a → readByte t a = readByte s a) ∧
        { t with mem := s.mem, elapsed := s.elapsed, rxlen := s.rxlen } = { s with pstate := .received })

/-- 42_probe R177: FAULT in SENT decides SOCKET_ERROR within the window, and has no effect after it. -/
def Obligations.TransportFaultWithinWindow : Prop :=
  ∀ (s : State), s.pstate = .sent →
    (s.timeout.toNat < (s.time - s.t0).toNat → agentStep (.transport .fault) s = .next s) ∧
    ((s.time - s.t0).toNat ≤ s.timeout.toNat →
      agentStep (.transport .fault) s = .next { s with pres := .socketError, pstate := .releasing })

/-- 42_probe R180 (c), (d), (e), R183: TRANSPORT has no step outside the state that waits for its message. That such a message
changes nothing is the model's choice (log 2); so no second datagram is accepted. -/
def Obligations.TransportSpeaksOnlyWhenAwaited : Prop :=
  ∀ (s : State),
    (∀ ok, s.pstate ≠ .opening ∨ s.treq ≠ .openReq → agentStep (.transport (.openRsp ok)) s = .next s) ∧
    (∀ ok, s.pstate ≠ .sending ∨ s.treq ≠ .send → agentStep (.transport (.sendRsp ok)) s = .next s) ∧
    (s.pstate ≠ .sent → (∀ d, agentStep (.transport (.rx d)) s = .next s) ∧
      agentStep (.transport .fault) s = .next s)

/-- 42_probe R176, R181: the timeout detector. In SENT the ENGINE step decides TIMED_OUT exactly after the window. That an ENGINE
turn changes nothing while the sequencer waits is the model's choice (log 2). -/
def Obligations.TimeoutDetectorFiresAfterTheWindow : Prop :=
  ∀ (s : State), s.busy = true →
    (s.pstate = .sent → s.timeout.toNat < (s.time - s.t0).toNat →
      exec .probe s = .next { s with pres := .timedOut, pstate := .releasing }) ∧
    (s.pstate = .sent → (s.time - s.t0).toNat ≤ s.timeout.toNat → exec .probe s = .next s) ∧
    (s.pstate = .opening ∨ s.pstate = .sending → exec .probe s = .next s)

/-- 42_probe R175 and R179 together: an accepted datagram is later judged as classify judges all of it, however much of it RXBUF
kept, and nothing else changes. -/
def Obligations.AcceptedDatagramIsJudgedWhole : Prop :=
  ∀ (s t : State) (d : List Byte), s.params.wf = true → s.busy = true → s.pstate = .sent → d.length ≤ 65535 →
    (s.time - s.t0).toNat ≤ s.timeout.toNat → agentStep (.transport (.rx d)) s = .next t →
    (∀ (id seq : Half), classify d s.target s.ident s.seq = .matched id seq →
      exec .probe t = .next { t with pres := .success, pstate := .releasing }) ∧
    (classify d s.target s.ident s.seq = .wrong →
      exec .probe t = .next { t with pres := .wrongAnswer, pstate := .releasing })

/-- 42_probe R178, 60_exceptions R213: the release issues CLOSE, publishes the outcome and completes. -/
def Obligations.ReleasePublishesTheOutcome : Prop :=
  ∀ (s : State), s.busy = true → s.pstate = .releasing →
    exec .probe s =
      .next { s with
        issued := some .close, handle := false, presult := s.pres
        latency := if s.pres = .success then BitVec.ofNat 32 (latencyMs s.params.ticksPerMs s.elapsed.toNat) else 0#32
        pstate := .idle, err := .none, busy := false, done := true }

/-- What the spec derives in 42_probe R189: outside reset the sequencer stays or moves along an edge of the listed paths, and
each path decides the outcomes the rule gives it. The path of PROTOCOL_ERROR is never taken (41_codec R143). -/
def Obligations.SequencerFollowsThePaths : Prop :=
  ∀ (s t : State), SequencerInv s → step s = .next t → nextEvent s ≠ .reset →
    (t.pstate = s.pstate ∨ sequencerEdge s.pstate t.pstate = true) ∧
    (s.pstate = .opening → t.pstate = .idle → t.presult = .socketError) ∧
    (s.pstate = .opening → t.pstate ≠ .releasing) ∧
    (s.pstate = .sending → t.pstate = .releasing → t.pres = .socketError) ∧
    (s.pstate = .sent → t.pstate = .releasing → t.pres = .timedOut ∨ t.pres = .socketError) ∧
    (s.pstate = .received → t.pstate = .releasing → t.pres = .success ∨ t.pres = .wrongAnswer) ∧
    (s.pstate = .releasing → t.pstate = .idle → t.presult = s.pres)

/-- 42_probe R181, R184, 70_reset_and_hazards R254: nothing but TRANSPORT's answer or reset ends a wait in OPENING or SENDING. -/
def Obligations.OnlyAnswersOrResetEndTheWait : Prop :=
  ∀ (s t : State), SequencerInv s → step s = .next t → s.pstate = .opening ∨ s.pstate = .sending →
    isAnswerOrReset (nextEvent s) = false →
    t.pstate = s.pstate ∧ t.treq = s.treq ∧ t.busy = true ∧ t.handle = s.handle ∧ t.presult = s.presult

/-- 20_memory R65, R74, R78: while BUSY = 1 no step but reset changes an operand: the registers and every DBUF byte stay. -/
def Obligations.OperandsFrozenWhileBusy : Prop :=
  ∀ (s t : State), s.params.wf = true → s.busy = true → step s = .next t → nextEvent s ≠ .reset →
    t.len = s.len ∧ t.ident = s.ident ∧ t.seq = s.seq ∧ t.target = s.target ∧ t.timeout = s.timeout ∧
    ∀ a, 0x400 ≤ a → a < 0x400 + s.params.dbufBytes → readByte t a = readByte s a

/-- 10_state R23 to R48, 30_encoding R93, 42_probe R171, R176, R178, R179: the frame of `exec` of the six commands, over their
presentation and their ENGINE steps. PROBE's TRANSPORT steps (42_probe R172 to R175, R177), which write TXBUF, RXBUF, T0, ELAPSED
and RXLEN, are not in `exec`: they stand in `transportStep` (log 3, DESIGN CHOICE), and the statements of TRANSPORT's messages
say what they change. -/
def Obligations.CommandFrame : Prop :=
  ∀ (i : Instr) (s t : State), exec i s = .next t →
    t.ie = s.ie ∧ t.ovr = s.ovr ∧ t.len = s.len ∧ t.ident = s.ident ∧ t.seq = s.seq ∧ t.target = s.target ∧
    t.timeout = s.timeout ∧ t.time = s.time ∧ t.t0 = s.t0 ∧ t.params = s.params ∧ t.rdata = s.rdata ∧
    t.agenda = s.agenda ∧ t.draws = s.draws ∧ t.epoch = s.epoch ∧
    (i ≠ .probe →
      t.pstate = s.pstate ∧ t.handle = s.handle ∧ t.treq = s.treq ∧ t.pres = s.pres ∧ t.presult = s.presult ∧
      t.latency = s.latency ∧ t.elapsed = s.elapsed ∧ t.rxlen = s.rxlen ∧ t.issued = s.issued) ∧
    (i = .probe → t.result = s.result ∧ t.fatal = s.fatal ∧ (s.busy = true → t.rv = s.rv)) ∧
    (s.busy = true → t.curop = s.curop) ∧
    (s.busy = false → t.result = s.result ∧ t.fatal = s.fatal) ∧
    (i ≠ .compose ∨ s.busy = false → ∀ a, readByte t a = readByte s a) ∧
    (i = .compose → ∀ a, a < 0x040 ∨ 0x048 ≤ a → readByte t a = readByte s a)

/-! ### Whole probes -/

/-- 42_probe R170, R175, R178, R179: from an idle engine that is not halted, a PROBE whose open and send succeed and whose first
datagram comes k ≤ TIMEOUT ticks after the send and matches ends in SUCCESS with LATENCY = latencyMs(k) and the handle
released. The order of the steps is an assumption on the other agents (R181, log 1). -/
def Obligations.MatchingReplyEndsInSuccess : Prop :=
  ∀ (s : State) (d : List Byte) (k : Nat) (id seq : Half), s.params.wf = true → s.busy = false → s.fatal = false →
    d.length ≤ 65535 → k ≤ s.timeout.toNat → classify d s.target s.ident s.seq = .matched id seq →
    ∃ t : State, runSteps (k + 6)
        { s with
          agenda := [.host (.write 0x004#12 0x00000006#32), .transport (.openRsp true), .transport (.sendRsp true)] ++
            List.replicate k .tick ++ [.transport (.rx d), .engine, .engine] } = .next t ∧
      t.presult = .success ∧ t.latency = BitVec.ofNat 32 (latencyMs s.params.ticksPerMs k) ∧ t.elapsed.toNat = k ∧
      t.rxlen.toNat = d.length ∧ t.busy = false ∧ t.done = true ∧ t.err = .none ∧ t.pstate = .idle ∧
      t.handle = false ∧ t.issued = some .close ∧ t.result = s.result

/-- 42_probe R170, R176, R178, R185: with no datagram and k > TIMEOUT ticks after the send, the PROBE ends in TIMED_OUT, with
LATENCY, ELAPSED and RXLEN 0 and the handle released. -/
def Obligations.NoReplyEndsInTimeout : Prop :=
  ∀ (s : State) (k : Nat), s.busy = false → s.fatal = false → s.timeout.toNat < k → k < 2 ^ 64 →
    ∃ t : State, runSteps (k + 5)
        { s with
          agenda := [.host (.write 0x004#12 0x00000006#32), .transport (.openRsp true), .transport (.sendRsp true)] ++
            List.replicate k .tick ++ [.engine, .engine] } = .next t ∧
      t.presult = .timedOut ∧ t.latency = 0#32 ∧ t.elapsed = 0#32 ∧ t.rxlen = 0#16 ∧ t.busy = false ∧ t.done = true ∧
      t.err = .none ∧ t.pstate = .idle ∧ t.handle = false ∧ t.issued = some .close ∧ t.result = s.result

/-! ### Reset -/

/-- 70_reset_and_hazards R240: a reset in any state closes a held handle and gives every part of the state its reset value; the
parameters, the agenda and the counters are the model's own (logs 1, 4, 5). -/
def Obligations.ResetRestoresTheResetState : Prop :=
  ∀ (s : State), agentStep .reset s =
    .next { State.reset with
      params := s.params, issued := if s.handle then some .close else none
      agenda := s.agenda, draws := s.draws, epoch := s.epoch + 1 }

/-- 10_state R52: the reset values of the registers and the hidden cells, and irq = 0. -/
def Obligations.ResetRegisterValues : Prop :=
  hostRead State.reset 0x000#12 = 0#32 ∧ hostRead State.reset 0x008#12 = 0#32 ∧
  hostRead State.reset 0x00C#12 = 0#32 ∧ hostRead State.reset 0x010#12 = 0#32 ∧ hostRead State.reset 0x014#12 = 0#32 ∧
  hostRead State.reset 0x018#12 = 0#32 ∧ hostRead State.reset 0x01C#12 = 0#32 ∧ hostRead State.reset 0x020#12 = 0#32 ∧
  hostRead State.reset 0x024#12 = 0#32 ∧ hostRead State.reset 0x028#12 = 0#32 ∧ hostRead State.reset 0x02C#12 = 0#32 ∧
  hostRead State.reset 0x030#12 = 0#32 ∧ State.reset.time = 0#64 ∧ State.reset.curop = 0#8 ∧ State.reset.t0 = 0#64 ∧
  resultCode State.reset.pres = 0#3 ∧ State.reset.treq = .none ∧ irq State.reset = false

/-! ### Invariants -/

/-- 20_memory R62, R72 and the canonical form (log 5): every step keeps the buffers' memory canonical and inside the windows, and
the parameters legal. -/
def Obligations.MemoryInvariantKept : Prop :=
  ∀ (s t : State), MemoryInv s → step s = .next t → MemoryInv t

/-- 10_state R25 to R32, R45, R47: every step keeps the relations between BUSY, DONE, RV, ERR, FATAL, CUROP, PSTATE, HANDLE and
TREQ. -/
def Obligations.SequencerInvariantKept : Prop :=
  ∀ (s t : State), SequencerInv s → step s = .next t → SequencerInv t

/-- 10_state R38 to R41, R48, 42_probe R185, R187: every step keeps the relations of the probe's result registers. -/
def Obligations.ProbeInvariantKept : Prop :=
  ∀ (s t : State), SequencerInv s → ProbeInv s → step s = .next t → ProbeInv t

/-- 10_state R52: the three invariants hold at reset. -/
def Obligations.InvariantsHoldAtReset : Prop :=
  MemoryInv State.reset ∧ SequencerInv State.reset ∧ ProbeInv State.reset

/-- No run stops: from a state in which the sequencer's relations hold, every step of every agent answers a next state, a halted
engine included (60_exceptions R215; log 9). -/
def Obligations.StepNeverStops : Prop :=
  ∀ (s : State), SequencerInv s → ∃ t, step s = .next t
end

