-- ==== Sys2Proof/Laws/State.lean ====
section
/-! SUPPORT. One lemma per field per update of State: what each named update writes, and what it leaves. -/

namespace Sys2Proof.Machine

/-! ### storeBytes (20_memory R63, 10_state R42 to R44) -/

@[simp] theorem storeBytes_ie (a : Nat) (bs : List Byte) (s : State) : (storeBytes a bs s).ie = s.ie := rfl
@[simp] theorem storeBytes_busy (a : Nat) (bs : List Byte) (s : State) : (storeBytes a bs s).busy = s.busy := rfl
@[simp] theorem storeBytes_done (a : Nat) (bs : List Byte) (s : State) : (storeBytes a bs s).done = s.done := rfl
@[simp] theorem storeBytes_rv (a : Nat) (bs : List Byte) (s : State) : (storeBytes a bs s).rv = s.rv := rfl
@[simp] theorem storeBytes_ovr (a : Nat) (bs : List Byte) (s : State) : (storeBytes a bs s).ovr = s.ovr := rfl
@[simp] theorem storeBytes_fatal (a : Nat) (bs : List Byte) (s : State) : (storeBytes a bs s).fatal = s.fatal := rfl
@[simp] theorem storeBytes_err (a : Nat) (bs : List Byte) (s : State) : (storeBytes a bs s).err = s.err := rfl
@[simp] theorem storeBytes_pstate (a : Nat) (bs : List Byte) (s : State) : (storeBytes a bs s).pstate = s.pstate := rfl
@[simp] theorem storeBytes_handle (a : Nat) (bs : List Byte) (s : State) : (storeBytes a bs s).handle = s.handle := rfl
@[simp] theorem storeBytes_len (a : Nat) (bs : List Byte) (s : State) : (storeBytes a bs s).len = s.len := rfl
@[simp] theorem storeBytes_ident (a : Nat) (bs : List Byte) (s : State) : (storeBytes a bs s).ident = s.ident := rfl
@[simp] theorem storeBytes_seq (a : Nat) (bs : List Byte) (s : State) : (storeBytes a bs s).seq = s.seq := rfl
@[simp] theorem storeBytes_target (a : Nat) (bs : List Byte) (s : State) : (storeBytes a bs s).target = s.target := rfl
@[simp] theorem storeBytes_timeout (a : Nat) (bs : List Byte) (s : State) : (storeBytes a bs s).timeout = s.timeout := rfl
@[simp] theorem storeBytes_result (a : Nat) (bs : List Byte) (s : State) : (storeBytes a bs s).result = s.result := rfl
@[simp] theorem storeBytes_presult (a : Nat) (bs : List Byte) (s : State) : (storeBytes a bs s).presult = s.presult := rfl
@[simp] theorem storeBytes_latency (a : Nat) (bs : List Byte) (s : State) : (storeBytes a bs s).latency = s.latency := rfl
@[simp] theorem storeBytes_elapsed (a : Nat) (bs : List Byte) (s : State) : (storeBytes a bs s).elapsed = s.elapsed := rfl
@[simp] theorem storeBytes_rxlen (a : Nat) (bs : List Byte) (s : State) : (storeBytes a bs s).rxlen = s.rxlen := rfl
@[simp] theorem storeBytes_time (a : Nat) (bs : List Byte) (s : State) : (storeBytes a bs s).time = s.time := rfl
@[simp] theorem storeBytes_t0 (a : Nat) (bs : List Byte) (s : State) : (storeBytes a bs s).t0 = s.t0 := rfl
@[simp] theorem storeBytes_curop (a : Nat) (bs : List Byte) (s : State) : (storeBytes a bs s).curop = s.curop := rfl
@[simp] theorem storeBytes_treq (a : Nat) (bs : List Byte) (s : State) : (storeBytes a bs s).treq = s.treq := rfl
@[simp] theorem storeBytes_pres (a : Nat) (bs : List Byte) (s : State) : (storeBytes a bs s).pres = s.pres := rfl
@[simp] theorem storeBytes_mem (a : Nat) (bs : List Byte) (s : State) : (storeBytes a bs s).mem = memWriteBytes s.mem a bs := rfl
@[simp] theorem storeBytes_params (a : Nat) (bs : List Byte) (s : State) : (storeBytes a bs s).params = s.params := rfl
@[simp] theorem storeBytes_issued (a : Nat) (bs : List Byte) (s : State) : (storeBytes a bs s).issued = s.issued := rfl
@[simp] theorem storeBytes_rdata (a : Nat) (bs : List Byte) (s : State) : (storeBytes a bs s).rdata = s.rdata := rfl
@[simp] theorem storeBytes_agenda (a : Nat) (bs : List Byte) (s : State) : (storeBytes a bs s).agenda = s.agenda := rfl
@[simp] theorem storeBytes_draws (a : Nat) (bs : List Byte) (s : State) : (storeBytes a bs s).draws = s.draws := rfl
@[simp] theorem storeBytes_epoch (a : Nat) (bs : List Byte) (s : State) : (storeBytes a bs s).epoch = s.epoch := rfl

/-! ### issue (00_scope R12) -/

@[simp] theorem issue_ie (r : TransportReq) (s : State) : (issue r s).ie = s.ie := rfl
@[simp] theorem issue_busy (r : TransportReq) (s : State) : (issue r s).busy = s.busy := rfl
@[simp] theorem issue_done (r : TransportReq) (s : State) : (issue r s).done = s.done := rfl
@[simp] theorem issue_rv (r : TransportReq) (s : State) : (issue r s).rv = s.rv := rfl
@[simp] theorem issue_ovr (r : TransportReq) (s : State) : (issue r s).ovr = s.ovr := rfl
@[simp] theorem issue_fatal (r : TransportReq) (s : State) : (issue r s).fatal = s.fatal := rfl
@[simp] theorem issue_err (r : TransportReq) (s : State) : (issue r s).err = s.err := rfl
@[simp] theorem issue_pstate (r : TransportReq) (s : State) : (issue r s).pstate = s.pstate := rfl
@[simp] theorem issue_handle (r : TransportReq) (s : State) : (issue r s).handle = s.handle := rfl
@[simp] theorem issue_len (r : TransportReq) (s : State) : (issue r s).len = s.len := rfl
@[simp] theorem issue_ident (r : TransportReq) (s : State) : (issue r s).ident = s.ident := rfl
@[simp] theorem issue_seq (r : TransportReq) (s : State) : (issue r s).seq = s.seq := rfl
@[simp] theorem issue_target (r : TransportReq) (s : State) : (issue r s).target = s.target := rfl
@[simp] theorem issue_timeout (r : TransportReq) (s : State) : (issue r s).timeout = s.timeout := rfl
@[simp] theorem issue_result (r : TransportReq) (s : State) : (issue r s).result = s.result := rfl
@[simp] theorem issue_presult (r : TransportReq) (s : State) : (issue r s).presult = s.presult := rfl
@[simp] theorem issue_latency (r : TransportReq) (s : State) : (issue r s).latency = s.latency := rfl
@[simp] theorem issue_elapsed (r : TransportReq) (s : State) : (issue r s).elapsed = s.elapsed := rfl
@[simp] theorem issue_rxlen (r : TransportReq) (s : State) : (issue r s).rxlen = s.rxlen := rfl
@[simp] theorem issue_time (r : TransportReq) (s : State) : (issue r s).time = s.time := rfl
@[simp] theorem issue_t0 (r : TransportReq) (s : State) : (issue r s).t0 = s.t0 := rfl
@[simp] theorem issue_curop (r : TransportReq) (s : State) : (issue r s).curop = s.curop := rfl
@[simp] theorem issue_treq (r : TransportReq) (s : State) : (issue r s).treq = s.treq := rfl
@[simp] theorem issue_pres (r : TransportReq) (s : State) : (issue r s).pres = s.pres := rfl
@[simp] theorem issue_mem (r : TransportReq) (s : State) : (issue r s).mem = s.mem := rfl
@[simp] theorem issue_params (r : TransportReq) (s : State) : (issue r s).params = s.params := rfl
@[simp] theorem issue_issued (r : TransportReq) (s : State) : (issue r s).issued = some r := rfl
@[simp] theorem issue_rdata (r : TransportReq) (s : State) : (issue r s).rdata = s.rdata := rfl
@[simp] theorem issue_agenda (r : TransportReq) (s : State) : (issue r s).agenda = s.agenda := rfl
@[simp] theorem issue_draws (r : TransportReq) (s : State) : (issue r s).draws = s.draws := rfl
@[simp] theorem issue_epoch (r : TransportReq) (s : State) : (issue r s).epoch = s.epoch := rfl

/-! ### accept (60_exceptions R212) -/

@[simp] theorem accept_ie (i : Instr) (s : State) : (accept i s).ie = s.ie := rfl
@[simp] theorem accept_busy (i : Instr) (s : State) : (accept i s).busy = true := rfl
@[simp] theorem accept_done (i : Instr) (s : State) : (accept i s).done = false := rfl
@[simp] theorem accept_rv (i : Instr) (s : State) : (accept i s).rv = false := rfl
@[simp] theorem accept_ovr (i : Instr) (s : State) : (accept i s).ovr = s.ovr := rfl
@[simp] theorem accept_fatal (i : Instr) (s : State) : (accept i s).fatal = s.fatal := rfl
@[simp] theorem accept_err (i : Instr) (s : State) : (accept i s).err = .none := rfl
@[simp] theorem accept_pstate (i : Instr) (s : State) : (accept i s).pstate = s.pstate := rfl
@[simp] theorem accept_handle (i : Instr) (s : State) : (accept i s).handle = s.handle := rfl
@[simp] theorem accept_len (i : Instr) (s : State) : (accept i s).len = s.len := rfl
@[simp] theorem accept_ident (i : Instr) (s : State) : (accept i s).ident = s.ident := rfl
@[simp] theorem accept_seq (i : Instr) (s : State) : (accept i s).seq = s.seq := rfl
@[simp] theorem accept_target (i : Instr) (s : State) : (accept i s).target = s.target := rfl
@[simp] theorem accept_timeout (i : Instr) (s : State) : (accept i s).timeout = s.timeout := rfl
@[simp] theorem accept_result (i : Instr) (s : State) : (accept i s).result = s.result := rfl
@[simp] theorem accept_presult (i : Instr) (s : State) : (accept i s).presult = s.presult := rfl
@[simp] theorem accept_latency (i : Instr) (s : State) : (accept i s).latency = s.latency := rfl
@[simp] theorem accept_elapsed (i : Instr) (s : State) : (accept i s).elapsed = s.elapsed := rfl
@[simp] theorem accept_rxlen (i : Instr) (s : State) : (accept i s).rxlen = s.rxlen := rfl
@[simp] theorem accept_time (i : Instr) (s : State) : (accept i s).time = s.time := rfl
@[simp] theorem accept_t0 (i : Instr) (s : State) : (accept i s).t0 = s.t0 := rfl
@[simp] theorem accept_curop (i : Instr) (s : State) : (accept i s).curop = opcode i := rfl
@[simp] theorem accept_treq (i : Instr) (s : State) : (accept i s).treq = s.treq := rfl
@[simp] theorem accept_pres (i : Instr) (s : State) : (accept i s).pres = s.pres := rfl
@[simp] theorem accept_mem (i : Instr) (s : State) : (accept i s).mem = s.mem := rfl
@[simp] theorem accept_params (i : Instr) (s : State) : (accept i s).params = s.params := rfl
@[simp] theorem accept_issued (i : Instr) (s : State) : (accept i s).issued = s.issued := rfl
@[simp] theorem accept_rdata (i : Instr) (s : State) : (accept i s).rdata = s.rdata := rfl
@[simp] theorem accept_agenda (i : Instr) (s : State) : (accept i s).agenda = s.agenda := rfl
@[simp] theorem accept_draws (i : Instr) (s : State) : (accept i s).draws = s.draws := rfl
@[simp] theorem accept_epoch (i : Instr) (s : State) : (accept i s).epoch = s.epoch := rfl

/-! ### reject (60_exceptions R212) -/

@[simp] theorem reject_ie (e : ErrCode) (s : State) : (reject e s).ie = s.ie := rfl
@[simp] theorem reject_busy (e : ErrCode) (s : State) : (reject e s).busy = s.busy := rfl
@[simp] theorem reject_done (e : ErrCode) (s : State) : (reject e s).done = true := rfl
@[simp] theorem reject_rv (e : ErrCode) (s : State) : (reject e s).rv = s.rv := rfl
@[simp] theorem reject_ovr (e : ErrCode) (s : State) : (reject e s).ovr = s.ovr := rfl
@[simp] theorem reject_fatal (e : ErrCode) (s : State) : (reject e s).fatal = s.fatal := rfl
@[simp] theorem reject_err (e : ErrCode) (s : State) : (reject e s).err = e := rfl
@[simp] theorem reject_pstate (e : ErrCode) (s : State) : (reject e s).pstate = s.pstate := rfl
@[simp] theorem reject_handle (e : ErrCode) (s : State) : (reject e s).handle = s.handle := rfl
@[simp] theorem reject_len (e : ErrCode) (s : State) : (reject e s).len = s.len := rfl
@[simp] theorem reject_ident (e : ErrCode) (s : State) : (reject e s).ident = s.ident := rfl
@[simp] theorem reject_seq (e : ErrCode) (s : State) : (reject e s).seq = s.seq := rfl
@[simp] theorem reject_target (e : ErrCode) (s : State) : (reject e s).target = s.target := rfl
@[simp] theorem reject_timeout (e : ErrCode) (s : State) : (reject e s).timeout = s.timeout := rfl
@[simp] theorem reject_result (e : ErrCode) (s : State) : (reject e s).result = s.result := rfl
@[simp] theorem reject_presult (e : ErrCode) (s : State) : (reject e s).presult = s.presult := rfl
@[simp] theorem reject_latency (e : ErrCode) (s : State) : (reject e s).latency = s.latency := rfl
@[simp] theorem reject_elapsed (e : ErrCode) (s : State) : (reject e s).elapsed = s.elapsed := rfl
@[simp] theorem reject_rxlen (e : ErrCode) (s : State) : (reject e s).rxlen = s.rxlen := rfl
@[simp] theorem reject_time (e : ErrCode) (s : State) : (reject e s).time = s.time := rfl
@[simp] theorem reject_t0 (e : ErrCode) (s : State) : (reject e s).t0 = s.t0 := rfl
@[simp] theorem reject_curop (e : ErrCode) (s : State) : (reject e s).curop = s.curop := rfl
@[simp] theorem reject_treq (e : ErrCode) (s : State) : (reject e s).treq = s.treq := rfl
@[simp] theorem reject_pres (e : ErrCode) (s : State) : (reject e s).pres = s.pres := rfl
@[simp] theorem reject_mem (e : ErrCode) (s : State) : (reject e s).mem = s.mem := rfl
@[simp] theorem reject_params (e : ErrCode) (s : State) : (reject e s).params = s.params := rfl
@[simp] theorem reject_issued (e : ErrCode) (s : State) : (reject e s).issued = s.issued := rfl
@[simp] theorem reject_rdata (e : ErrCode) (s : State) : (reject e s).rdata = s.rdata := rfl
@[simp] theorem reject_agenda (e : ErrCode) (s : State) : (reject e s).agenda = s.agenda := rfl
@[simp] theorem reject_draws (e : ErrCode) (s : State) : (reject e s).draws = s.draws := rfl
@[simp] theorem reject_epoch (e : ErrCode) (s : State) : (reject e s).epoch = s.epoch := rfl

/-! ### finish (60_exceptions R213) -/

@[simp] theorem finish_ie (e : ErrCode) (s : State) : (finish e s).ie = s.ie := rfl
@[simp] theorem finish_busy (e : ErrCode) (s : State) : (finish e s).busy = false := rfl
@[simp] theorem finish_done (e : ErrCode) (s : State) : (finish e s).done = true := rfl
@[simp] theorem finish_rv (e : ErrCode) (s : State) : (finish e s).rv = s.rv := rfl
@[simp] theorem finish_ovr (e : ErrCode) (s : State) : (finish e s).ovr = s.ovr := rfl
@[simp] theorem finish_fatal (e : ErrCode) (s : State) : (finish e s).fatal = s.fatal := rfl
@[simp] theorem finish_err (e : ErrCode) (s : State) : (finish e s).err = e := rfl
@[simp] theorem finish_pstate (e : ErrCode) (s : State) : (finish e s).pstate = s.pstate := rfl
@[simp] theorem finish_handle (e : ErrCode) (s : State) : (finish e s).handle = s.handle := rfl
@[simp] theorem finish_len (e : ErrCode) (s : State) : (finish e s).len = s.len := rfl
@[simp] theorem finish_ident (e : ErrCode) (s : State) : (finish e s).ident = s.ident := rfl
@[simp] theorem finish_seq (e : ErrCode) (s : State) : (finish e s).seq = s.seq := rfl
@[simp] theorem finish_target (e : ErrCode) (s : State) : (finish e s).target = s.target := rfl
@[simp] theorem finish_timeout (e : ErrCode) (s : State) : (finish e s).timeout = s.timeout := rfl
@[simp] theorem finish_result (e : ErrCode) (s : State) : (finish e s).result = s.result := rfl
@[simp] theorem finish_presult (e : ErrCode) (s : State) : (finish e s).presult = s.presult := rfl
@[simp] theorem finish_latency (e : ErrCode) (s : State) : (finish e s).latency = s.latency := rfl
@[simp] theorem finish_elapsed (e : ErrCode) (s : State) : (finish e s).elapsed = s.elapsed := rfl
@[simp] theorem finish_rxlen (e : ErrCode) (s : State) : (finish e s).rxlen = s.rxlen := rfl
@[simp] theorem finish_time (e : ErrCode) (s : State) : (finish e s).time = s.time := rfl
@[simp] theorem finish_t0 (e : ErrCode) (s : State) : (finish e s).t0 = s.t0 := rfl
@[simp] theorem finish_curop (e : ErrCode) (s : State) : (finish e s).curop = s.curop := rfl
@[simp] theorem finish_treq (e : ErrCode) (s : State) : (finish e s).treq = s.treq := rfl
@[simp] theorem finish_pres (e : ErrCode) (s : State) : (finish e s).pres = s.pres := rfl
@[simp] theorem finish_mem (e : ErrCode) (s : State) : (finish e s).mem = s.mem := rfl
@[simp] theorem finish_params (e : ErrCode) (s : State) : (finish e s).params = s.params := rfl
@[simp] theorem finish_issued (e : ErrCode) (s : State) : (finish e s).issued = s.issued := rfl
@[simp] theorem finish_rdata (e : ErrCode) (s : State) : (finish e s).rdata = s.rdata := rfl
@[simp] theorem finish_agenda (e : ErrCode) (s : State) : (finish e s).agenda = s.agenda := rfl
@[simp] theorem finish_draws (e : ErrCode) (s : State) : (finish e s).draws = s.draws := rfl
@[simp] theorem finish_epoch (e : ErrCode) (s : State) : (finish e s).epoch = s.epoch := rfl

/-! ### acknowledge (60_exceptions R218) -/

@[simp] theorem acknowledge_ie (v : Word) (s : State) : (acknowledge v s).ie = s.ie := rfl
@[simp] theorem acknowledge_busy (v : Word) (s : State) : (acknowledge v s).busy = s.busy := rfl
@[simp] theorem acknowledge_done (v : Word) (s : State) : (acknowledge v s).done = if v.getLsbD 1 then false else s.done := rfl
@[simp] theorem acknowledge_rv (v : Word) (s : State) : (acknowledge v s).rv = s.rv := rfl
@[simp] theorem acknowledge_ovr (v : Word) (s : State) : (acknowledge v s).ovr = if v.getLsbD 3 then false else s.ovr := rfl
@[simp] theorem acknowledge_fatal (v : Word) (s : State) : (acknowledge v s).fatal = s.fatal := rfl
@[simp] theorem acknowledge_err (v : Word) (s : State) : (acknowledge v s).err = s.err := rfl
@[simp] theorem acknowledge_pstate (v : Word) (s : State) : (acknowledge v s).pstate = s.pstate := rfl
@[simp] theorem acknowledge_handle (v : Word) (s : State) : (acknowledge v s).handle = s.handle := rfl
@[simp] theorem acknowledge_len (v : Word) (s : State) : (acknowledge v s).len = s.len := rfl
@[simp] theorem acknowledge_ident (v : Word) (s : State) : (acknowledge v s).ident = s.ident := rfl
@[simp] theorem acknowledge_seq (v : Word) (s : State) : (acknowledge v s).seq = s.seq := rfl
@[simp] theorem acknowledge_target (v : Word) (s : State) : (acknowledge v s).target = s.target := rfl
@[simp] theorem acknowledge_timeout (v : Word) (s : State) : (acknowledge v s).timeout = s.timeout := rfl
@[simp] theorem acknowledge_result (v : Word) (s : State) : (acknowledge v s).result = s.result := rfl
@[simp] theorem acknowledge_presult (v : Word) (s : State) : (acknowledge v s).presult = s.presult := rfl
@[simp] theorem acknowledge_latency (v : Word) (s : State) : (acknowledge v s).latency = s.latency := rfl
@[simp] theorem acknowledge_elapsed (v : Word) (s : State) : (acknowledge v s).elapsed = s.elapsed := rfl
@[simp] theorem acknowledge_rxlen (v : Word) (s : State) : (acknowledge v s).rxlen = s.rxlen := rfl
@[simp] theorem acknowledge_time (v : Word) (s : State) : (acknowledge v s).time = s.time := rfl
@[simp] theorem acknowledge_t0 (v : Word) (s : State) : (acknowledge v s).t0 = s.t0 := rfl
@[simp] theorem acknowledge_curop (v : Word) (s : State) : (acknowledge v s).curop = s.curop := rfl
@[simp] theorem acknowledge_treq (v : Word) (s : State) : (acknowledge v s).treq = s.treq := rfl
@[simp] theorem acknowledge_pres (v : Word) (s : State) : (acknowledge v s).pres = s.pres := rfl
@[simp] theorem acknowledge_mem (v : Word) (s : State) : (acknowledge v s).mem = s.mem := rfl
@[simp] theorem acknowledge_params (v : Word) (s : State) : (acknowledge v s).params = s.params := rfl
@[simp] theorem acknowledge_issued (v : Word) (s : State) : (acknowledge v s).issued = s.issued := rfl
@[simp] theorem acknowledge_rdata (v : Word) (s : State) : (acknowledge v s).rdata = s.rdata := rfl
@[simp] theorem acknowledge_agenda (v : Word) (s : State) : (acknowledge v s).agenda = s.agenda := rfl
@[simp] theorem acknowledge_draws (v : Word) (s : State) : (acknowledge v s).draws = s.draws := rfl
@[simp] theorem acknowledge_epoch (v : Word) (s : State) : (acknowledge v s).epoch = s.epoch := rfl

/-! ### decideOutcome (10_state R48) -/

@[simp] theorem decideOutcome_ie (r : ProbeResult) (s : State) : (decideOutcome r s).ie = s.ie := rfl
@[simp] theorem decideOutcome_busy (r : ProbeResult) (s : State) : (decideOutcome r s).busy = s.busy := rfl
@[simp] theorem decideOutcome_done (r : ProbeResult) (s : State) : (decideOutcome r s).done = s.done := rfl
@[simp] theorem decideOutcome_rv (r : ProbeResult) (s : State) : (decideOutcome r s).rv = s.rv := rfl
@[simp] theorem decideOutcome_ovr (r : ProbeResult) (s : State) : (decideOutcome r s).ovr = s.ovr := rfl
@[simp] theorem decideOutcome_fatal (r : ProbeResult) (s : State) : (decideOutcome r s).fatal = s.fatal := rfl
@[simp] theorem decideOutcome_err (r : ProbeResult) (s : State) : (decideOutcome r s).err = s.err := rfl
@[simp] theorem decideOutcome_pstate (r : ProbeResult) (s : State) : (decideOutcome r s).pstate = .releasing := rfl
@[simp] theorem decideOutcome_handle (r : ProbeResult) (s : State) : (decideOutcome r s).handle = s.handle := rfl
@[simp] theorem decideOutcome_len (r : ProbeResult) (s : State) : (decideOutcome r s).len = s.len := rfl
@[simp] theorem decideOutcome_ident (r : ProbeResult) (s : State) : (decideOutcome r s).ident = s.ident := rfl
@[simp] theorem decideOutcome_seq (r : ProbeResult) (s : State) : (decideOutcome r s).seq = s.seq := rfl
@[simp] theorem decideOutcome_target (r : ProbeResult) (s : State) : (decideOutcome r s).target = s.target := rfl
@[simp] theorem decideOutcome_timeout (r : ProbeResult) (s : State) : (decideOutcome r s).timeout = s.timeout := rfl
@[simp] theorem decideOutcome_result (r : ProbeResult) (s : State) : (decideOutcome r s).result = s.result := rfl
@[simp] theorem decideOutcome_presult (r : ProbeResult) (s : State) : (decideOutcome r s).presult = s.presult := rfl
@[simp] theorem decideOutcome_latency (r : ProbeResult) (s : State) : (decideOutcome r s).latency = s.latency := rfl
@[simp] theorem decideOutcome_elapsed (r : ProbeResult) (s : State) : (decideOutcome r s).elapsed = s.elapsed := rfl
@[simp] theorem decideOutcome_rxlen (r : ProbeResult) (s : State) : (decideOutcome r s).rxlen = s.rxlen := rfl
@[simp] theorem decideOutcome_time (r : ProbeResult) (s : State) : (decideOutcome r s).time = s.time := rfl
@[simp] theorem decideOutcome_t0 (r : ProbeResult) (s : State) : (decideOutcome r s).t0 = s.t0 := rfl
@[simp] theorem decideOutcome_curop (r : ProbeResult) (s : State) : (decideOutcome r s).curop = s.curop := rfl
@[simp] theorem decideOutcome_treq (r : ProbeResult) (s : State) : (decideOutcome r s).treq = s.treq := rfl
@[simp] theorem decideOutcome_pres (r : ProbeResult) (s : State) : (decideOutcome r s).pres = r := rfl
@[simp] theorem decideOutcome_mem (r : ProbeResult) (s : State) : (decideOutcome r s).mem = s.mem := rfl
@[simp] theorem decideOutcome_params (r : ProbeResult) (s : State) : (decideOutcome r s).params = s.params := rfl
@[simp] theorem decideOutcome_issued (r : ProbeResult) (s : State) : (decideOutcome r s).issued = s.issued := rfl
@[simp] theorem decideOutcome_rdata (r : ProbeResult) (s : State) : (decideOutcome r s).rdata = s.rdata := rfl
@[simp] theorem decideOutcome_agenda (r : ProbeResult) (s : State) : (decideOutcome r s).agenda = s.agenda := rfl
@[simp] theorem decideOutcome_draws (r : ProbeResult) (s : State) : (decideOutcome r s).draws = s.draws := rfl
@[simp] theorem decideOutcome_epoch (r : ProbeResult) (s : State) : (decideOutcome r s).epoch = s.epoch := rfl

/-! ### timebaseStep (10_state R36) -/

@[simp] theorem timebaseStep_ie (s : State) : (timebaseStep s).ie = s.ie := rfl
@[simp] theorem timebaseStep_busy (s : State) : (timebaseStep s).busy = s.busy := rfl
@[simp] theorem timebaseStep_done (s : State) : (timebaseStep s).done = s.done := rfl
@[simp] theorem timebaseStep_rv (s : State) : (timebaseStep s).rv = s.rv := rfl
@[simp] theorem timebaseStep_ovr (s : State) : (timebaseStep s).ovr = s.ovr := rfl
@[simp] theorem timebaseStep_fatal (s : State) : (timebaseStep s).fatal = s.fatal := rfl
@[simp] theorem timebaseStep_err (s : State) : (timebaseStep s).err = s.err := rfl
@[simp] theorem timebaseStep_pstate (s : State) : (timebaseStep s).pstate = s.pstate := rfl
@[simp] theorem timebaseStep_handle (s : State) : (timebaseStep s).handle = s.handle := rfl
@[simp] theorem timebaseStep_len (s : State) : (timebaseStep s).len = s.len := rfl
@[simp] theorem timebaseStep_ident (s : State) : (timebaseStep s).ident = s.ident := rfl
@[simp] theorem timebaseStep_seq (s : State) : (timebaseStep s).seq = s.seq := rfl
@[simp] theorem timebaseStep_target (s : State) : (timebaseStep s).target = s.target := rfl
@[simp] theorem timebaseStep_timeout (s : State) : (timebaseStep s).timeout = s.timeout := rfl
@[simp] theorem timebaseStep_result (s : State) : (timebaseStep s).result = s.result := rfl
@[simp] theorem timebaseStep_presult (s : State) : (timebaseStep s).presult = s.presult := rfl
@[simp] theorem timebaseStep_latency (s : State) : (timebaseStep s).latency = s.latency := rfl
@[simp] theorem timebaseStep_elapsed (s : State) : (timebaseStep s).elapsed = s.elapsed := rfl
@[simp] theorem timebaseStep_rxlen (s : State) : (timebaseStep s).rxlen = s.rxlen := rfl
@[simp] theorem timebaseStep_time (s : State) : (timebaseStep s).time = s.time + 1#64 := rfl
@[simp] theorem timebaseStep_t0 (s : State) : (timebaseStep s).t0 = s.t0 := rfl
@[simp] theorem timebaseStep_curop (s : State) : (timebaseStep s).curop = s.curop := rfl
@[simp] theorem timebaseStep_treq (s : State) : (timebaseStep s).treq = s.treq := rfl
@[simp] theorem timebaseStep_pres (s : State) : (timebaseStep s).pres = s.pres := rfl
@[simp] theorem timebaseStep_mem (s : State) : (timebaseStep s).mem = s.mem := rfl
@[simp] theorem timebaseStep_params (s : State) : (timebaseStep s).params = s.params := rfl
@[simp] theorem timebaseStep_issued (s : State) : (timebaseStep s).issued = s.issued := rfl
@[simp] theorem timebaseStep_rdata (s : State) : (timebaseStep s).rdata = s.rdata := rfl
@[simp] theorem timebaseStep_agenda (s : State) : (timebaseStep s).agenda = s.agenda := rfl
@[simp] theorem timebaseStep_draws (s : State) : (timebaseStep s).draws = s.draws := rfl
@[simp] theorem timebaseStep_epoch (s : State) : (timebaseStep s).epoch = s.epoch := rfl

/-! ### beginStep (log 1) -/

@[simp] theorem beginStep_ie (s : State) : (beginStep s).ie = s.ie := rfl
@[simp] theorem beginStep_busy (s : State) : (beginStep s).busy = s.busy := rfl
@[simp] theorem beginStep_done (s : State) : (beginStep s).done = s.done := rfl
@[simp] theorem beginStep_rv (s : State) : (beginStep s).rv = s.rv := rfl
@[simp] theorem beginStep_ovr (s : State) : (beginStep s).ovr = s.ovr := rfl
@[simp] theorem beginStep_fatal (s : State) : (beginStep s).fatal = s.fatal := rfl
@[simp] theorem beginStep_err (s : State) : (beginStep s).err = s.err := rfl
@[simp] theorem beginStep_pstate (s : State) : (beginStep s).pstate = s.pstate := rfl
@[simp] theorem beginStep_handle (s : State) : (beginStep s).handle = s.handle := rfl
@[simp] theorem beginStep_len (s : State) : (beginStep s).len = s.len := rfl
@[simp] theorem beginStep_ident (s : State) : (beginStep s).ident = s.ident := rfl
@[simp] theorem beginStep_seq (s : State) : (beginStep s).seq = s.seq := rfl
@[simp] theorem beginStep_target (s : State) : (beginStep s).target = s.target := rfl
@[simp] theorem beginStep_timeout (s : State) : (beginStep s).timeout = s.timeout := rfl
@[simp] theorem beginStep_result (s : State) : (beginStep s).result = s.result := rfl
@[simp] theorem beginStep_presult (s : State) : (beginStep s).presult = s.presult := rfl
@[simp] theorem beginStep_latency (s : State) : (beginStep s).latency = s.latency := rfl
@[simp] theorem beginStep_elapsed (s : State) : (beginStep s).elapsed = s.elapsed := rfl
@[simp] theorem beginStep_rxlen (s : State) : (beginStep s).rxlen = s.rxlen := rfl
@[simp] theorem beginStep_time (s : State) : (beginStep s).time = s.time := rfl
@[simp] theorem beginStep_t0 (s : State) : (beginStep s).t0 = s.t0 := rfl
@[simp] theorem beginStep_curop (s : State) : (beginStep s).curop = s.curop := rfl
@[simp] theorem beginStep_treq (s : State) : (beginStep s).treq = s.treq := rfl
@[simp] theorem beginStep_pres (s : State) : (beginStep s).pres = s.pres := rfl
@[simp] theorem beginStep_mem (s : State) : (beginStep s).mem = s.mem := rfl
@[simp] theorem beginStep_params (s : State) : (beginStep s).params = s.params := rfl
@[simp] theorem beginStep_issued (s : State) : (beginStep s).issued = none := rfl
@[simp] theorem beginStep_rdata (s : State) : (beginStep s).rdata = none := rfl
@[simp] theorem beginStep_agenda (s : State) : (beginStep s).agenda = s.agenda.tail := rfl
@[simp] theorem beginStep_draws (s : State) : (beginStep s).draws = s.draws + 1 := rfl
@[simp] theorem beginStep_epoch (s : State) : (beginStep s).epoch = s.epoch := rfl

end Sys2Proof.Machine
end

