-- ==== Sys2Proof/Laws/Memory.lean ====
section
/-! SUPPORT. The laws of the buffers' memory: a read after a write to the same place, a write leaves every other place alone,
and every memory operation keeps the canonical form. -/

namespace Sys2Proof.Machine

/-! ### The canonical form -/

theorem memWf_nil : Memory.wf [] = true := rfl

theorem memWf_cons_iff (c : Host.Cell) (m : List Host.Cell) :
    Memory.wf (c :: m) = true ↔ (∀ c' ∈ m.head?, c.1 < c'.1) ∧ Memory.wf m = true := by
  cases m with
  | nil => simp [Memory.wf]
  | cons c' m => simp [Memory.wf]

theorem memWf_tail {c : Host.Cell} {m : List Host.Cell} (h : Memory.wf (c :: m) = true) : Memory.wf m = true :=
  ((memWf_cons_iff c m).1 h).2

/-- The first cell of a written memory is the old first cell or the new one. -/
theorem memWrite_head (m : List Host.Cell) (a : Nat) (b : Byte) :
    ∀ c ∈ (memWrite m a b).head?, c.1 = a ∨ c ∈ m.head? := by
  cases m with
  | nil => simp [memWrite]
  | cons c m =>
    unfold memWrite
    split
    · simp
    · split <;> simp

/-- A write keeps the addresses strictly rising. -/
theorem memWf_memWrite (m : List Host.Cell) (a : Nat) (b : Byte) (h : Memory.wf m = true) : Memory.wf (memWrite m a b) = true := by
  induction m with
  | nil => rfl
  | cons c m ih =>
    have hc := (memWf_cons_iff c m).1 h
    unfold memWrite
    split
    · exact (memWf_cons_iff _ _).2 ⟨by simpa using ‹_›, h⟩
    · split
      · rename_i h1 h2
        subst h2
        exact (memWf_cons_iff _ _).2 hc
      · refine (memWf_cons_iff _ _).2 ⟨fun c' hc' => ?_, ih hc.2⟩
        rcases memWrite_head m a b c' hc' with h3 | h3
        · omega
        · exact hc.1 c' h3

theorem memWf_memWriteBytes (bs : List Byte) (m : List Host.Cell) (a : Nat) (h : Memory.wf m = true) :
    Memory.wf (memWriteBytes m a bs) = true := by
  induction bs generalizing m a with
  | nil => exact h
  | cons b bs ih => exact ih _ _ (memWf_memWrite m a b h)

/-- The memory after reset has the canonical form. -/
theorem memWf_reset : Memory.wf State.reset.mem = true := rfl

/-- Storing into a buffer keeps the canonical form. -/
theorem memWf_storeBytes (a : Nat) (bs : List Byte) (s : State) (h : Memory.wf s.mem = true) :
    Memory.wf (storeBytes a bs s).mem = true :=
  memWf_memWriteBytes bs s.mem a h

/-! ### Read after write -/

theorem memLookup_memWrite (m : List Host.Cell) (a x : Nat) (b : Byte) :
    memLookup (memWrite m a b) x = if x = a then some b else memLookup m x := by
  induction m with
  | nil => simp [memWrite, memLookup, eq_comm]
  | cons c m ih =>
    unfold memWrite
    split
    · simp [memLookup, eq_comm]
    · split
      · rename_i h1 h2
        by_cases hx : x = a
        · simp [memLookup, hx]
        · simp [memLookup, hx, ← h2, Ne.symm hx]
      · rename_i h1 h2
        simp only [memLookup, ih]
        split
        · rename_i h3
          simp [← h3, Ne.symm h2]
        · rfl

/-- What a byte sequence written from `a` on leaves at an address. -/
theorem memLookup_memWriteBytes (bs : List Byte) (m : List Host.Cell) (a x : Nat) :
    memLookup (memWriteBytes m a bs) x = if a ≤ x ∧ x < a + bs.length then bs[x - a]? else memLookup m x := by
  induction bs generalizing m a with
  | nil =>
    have : ¬ (a ≤ x ∧ x < a + ([] : List Byte).length) := by simp
    simp only [memWriteBytes, this, if_false]
  | cons b bs ih =>
    rw [memWriteBytes, ih, memLookup_memWrite]
    simp only [List.length_cons]
    by_cases h1 : x = a
    · subst h1
      simp
    · by_cases h2 : a + 1 ≤ x ∧ x < a + 1 + bs.length
      · have h3 : a ≤ x ∧ x < a + (bs.length + 1) := by omega
        have h4 : x - a = (x - (a + 1)) + 1 := by omega
        rw [if_pos h2, if_pos h3, h4, List.getElem?_cons_succ]
      · have h3 : ¬ (a ≤ x ∧ x < a + (bs.length + 1)) := by omega
        rw [if_neg h2, if_neg h3, if_neg h1]

/-- Every cell of a written memory is an old cell or lies where the write went. -/
theorem mem_memWrite {m : List Host.Cell} {a : Nat} {b : Byte} {c : Host.Cell} (h : c ∈ memWrite m a b) :
    c.1 = a ∨ c ∈ m := by
  induction m with
  | nil => simp [memWrite] at h; simp [h]
  | cons c' m ih =>
    unfold memWrite at h
    split at h
    · rcases List.mem_cons.1 h with rfl | h
      · exact .inl rfl
      · exact .inr h
    · split at h
      · rcases List.mem_cons.1 h with rfl | h
        · exact .inl rfl
        · exact .inr (List.mem_cons_of_mem _ h)
      · rcases List.mem_cons.1 h with rfl | h
        · exact .inr List.mem_cons_self
        · exact (ih h).imp_right (List.mem_cons_of_mem _)

theorem mem_memWriteBytes {bs : List Byte} {m : List Host.Cell} {a : Nat} {c : Host.Cell} (h : c ∈ memWriteBytes m a bs) :
    (a ≤ c.1 ∧ c.1 < a + bs.length) ∨ c ∈ m := by
  induction bs generalizing m a with
  | nil => exact .inr h
  | cons b bs ih =>
    simp only [List.length_cons]
    rcases ih (m := memWrite m a b) h with h1 | h1
    · exact .inl (by omega)
    · rcases mem_memWrite h1 with h2 | h2
      · exact .inl (by omega)
      · exact .inr h2

/-- A byte reads as it did when the memory and the indices of the free values are the same. -/
theorem readByte_congr {s t : State} (hm : t.mem = s.mem) (hd : t.draws = s.draws) (he : t.epoch = s.epoch) (a : Nat) :
    readByte t a = readByte s a := by
  simp [readByte, freeByte, hm, hd, he]

/-- The one law of a store: inside the stored bytes the new byte, outside the old one. -/
theorem readByte_storeBytes (a : Nat) (bs : List Byte) (s : State) (x : Nat) :
    readByte (storeBytes a bs s) x =
      if a ≤ x ∧ x < a + bs.length then bs.getD (x - a) 0#8 else readByte s x := by
  simp only [readByte, storeBytes_mem, memLookup_memWriteBytes]
  split
  · rename_i h
    have : x - a < bs.length := by omega
    simp [this]
  · rfl

theorem readBytes_length (s : State) (a n : Nat) : (readBytes s a n).length = n := by simp [readBytes]

theorem readBytes_getD (s : State) (a n i : Nat) (d : Byte) :
    (readBytes s a n).getD i d = if i < n then readByte s (a + i) else d := by
  simp only [readBytes, List.getD_eq_getElem?_getD, List.getElem?_map]
  split
  · rename_i h; simp [h]
  · rename_i h; simp [Nat.not_lt.1 h]

end Sys2Proof.Machine
end

