-- ==== Sys2Proof/Laws/Ops.lean ====
section
/-! SUPPORT. What each shared operation can do, said once. -/

namespace Sys2Proof.Machine

/-! ### Commands -/

/-- All that presenting or executing a command can do (60_exceptions R212): it always answers a next state. -/
theorem runCommand_eq (i : Instr) (start execute : State → State) (s : State) :
    runCommand i start execute s =
      .next (if s.busy then execute s else if s.fatal then reject .halted s else start (accept i s)) := by
  unfold runCommand
  split
  · rfl
  · split <;> rfl

theorem exec_busy_foldsum (s : State) (h : s.busy = true) : exec .foldsum s = .next (foldsumStep s) := by
  simp [exec, execFoldsum, runCommand_eq, h]

theorem exec_busy_cksum (s : State) (h : s.busy = true) : exec .cksum s = .next (cksumStep s) := by
  simp [exec, execCksum, runCommand_eq, h]

theorem exec_busy_compose (s : State) (h : s.busy = true) : exec .compose s = .next (composeStep s) := by
  simp [exec, execCompose, runCommand_eq, h]

theorem exec_busy_parse (s : State) (h : s.busy = true) : exec .parse s = .next (parseStep s) := by
  simp [exec, execParse, runCommand_eq, h]

theorem exec_busy_validate (s : State) (h : s.busy = true) : exec .validate s = .next (validateStep s) := by
  simp [exec, execValidate, runCommand_eq, h]

theorem exec_busy_probe (s : State) (h : s.busy = true) : exec .probe s = .next (probeStep s) := by
  simp [exec, execProbe, runCommand_eq, h]

/-- The command's presentation to an idle engine (60_exceptions R212): PROBE alone adds to acceptance (42_probe R171). -/
theorem exec_idle (i : Instr) (s : State) (h : s.busy = false) :
    exec i s = .next (if s.fatal then reject .halted s
      else if i = .probe then startProbe (accept .probe s) else accept i s) := by
  cases i <;> simp [exec, execFoldsum, execCksum, execCompose, execParse, execValidate, execProbe, runCommand_eq, h]

/-- What each command executes while BUSY = 1. -/
def executeStep : Instr → State → State
  | .foldsum => foldsumStep
  | .cksum => cksumStep
  | .compose => composeStep
  | .parse => parseStep
  | .validate => validateStep
  | .probe => probeStep

theorem exec_busy (i : Instr) (s : State) (h : s.busy = true) : exec i s = .next (executeStep i s) := by
  cases i
  · exact exec_busy_foldsum s h
  · exact exec_busy_cksum s h
  · exact exec_busy_compose s h
  · exact exec_busy_parse s h
  · exact exec_busy_validate s h
  · exact exec_busy_probe s h

/-! ### Errors -/

theorem raise_invalidLength (n : Nat) (s : State) :
    raise (.invalidLength n) s = finish .invalidLength { s with fatal := true } := rfl

theorem raise_protocolError (s : State) : raise .protocolError s = finish .protocol s := rfl

/-- No error writes a result, a buffer or an operand (60_exceptions R214). -/
theorem raise_frame (e : CommandError) (s : State) :
    (raise e s).result = s.result ∧ (raise e s).rv = s.rv ∧ (raise e s).mem = s.mem ∧ (raise e s).len = s.len := by
  cases e <;> simp [raise]

/-! ### The step -/

theorem nextEvent_cons {s : State} {e : Event} {rest : List Event} (h : s.agenda = e :: rest) : nextEvent s = e := by
  simp [nextEvent, h]

theorem nextEvent_nil {s : State} (h : s.agenda = []) : nextEvent s = Config.environment s.draws := by
  simp [nextEvent, h]

/-- All that a host WRITE can do (20_memory R63). -/
theorem hostWrite_cases (addr : BitVec 12) (v : Word) (s : State) :
    hostWrite addr v s = .next s ∨
    hostWrite addr v s = .next { s with ie := v.getLsbD 0 } ∨
    (addr.toNat = 0x008 ∧ hostWrite addr v s = .next (acknowledge v s)) ∨
    (s.busy = true ∧ frozenWhileBusy s addr.toNat = true ∧ addr.toNat % 4 = 0 ∧
      hostWrite addr v s = .next { s with ovr := true }) ∨
    (s.busy = false ∧ addr.toNat = 0x004 ∧ hostWrite addr v s = presentWord v s) ∨
    (s.busy = false ∧ frozenWhileBusy s addr.toNat = true ∧ addr.toNat % 4 = 0 ∧ addr.toNat ≠ 0x004 ∧
      hostWrite addr v s = .next (writeOperand addr.toNat v s)) := by
  unfold hostWrite
  simp only
  split
  · exact .inl rfl
  · split
    · exact .inr (.inl rfl)
    · split
      · exact .inr (.inr (.inl ⟨‹_›, rfl⟩))
      · split
        · cases hb : s.busy
          · by_cases h4 : addr.toNat = 0x004
            · exact .inr (.inr (.inr (.inr (.inl ⟨rfl, h4, by simp [h4]⟩))))
            · exact .inr (.inr (.inr (.inr (.inr ⟨rfl, ‹_›, by omega, h4, by simp [h4]⟩))))
          · exact .inr (.inr (.inr (.inl ⟨rfl, ‹_›, by omega, by simp⟩)))
        · exact .inl rfl

/-- All that presenting a word to an idle engine can do (60_exceptions R212). -/
theorem presentWord_idle (w : Word) (s : State) (h : s.busy = false) :
    (∃ i, decode w = .ok i ∧ presentWord w s = exec i s) ∨
    (∃ e, decode w = .error e ∧ presentWord w s = .next (reject (if s.fatal then .halted else .illegalCmd) s)) := by
  cases hd : decode w with
  | ok i => exact .inl ⟨i, rfl, by simp [presentWord, h, hd]⟩
  | error e => exact .inr ⟨e, rfl, by simp [presentWord, h, hd]⟩

/-- All that an ENGINE turn can do. -/
theorem engineStep_cases (s : State) :
    ((s.busy = false ∨ s.fatal = true) ∧ engineStep s = .next s) ∨
    (s.busy = true ∧ s.fatal = false ∧ ∃ i, decodeOp s.curop = some i ∧ engineStep s = .next (executeStep i s)) ∨
    (s.busy = true ∧ s.fatal = false ∧ decodeOp s.curop = none ∧ engineStep s = .fault .curopNamesNoCommand) := by
  cases hb : s.busy with
  | false => exact .inl ⟨.inl rfl, by simp [engineStep, hb]⟩
  | true =>
    cases hf : s.fatal with
    | true => exact .inl ⟨.inr rfl, by simp [engineStep, hf]⟩
    | false =>
      cases hd : decodeOp s.curop with
      | none => exact .inr (.inr ⟨rfl, rfl, rfl, by simp [engineStep, hb, hf, hd]⟩)
      | some i => exact .inr (.inl ⟨rfl, rfl, i, rfl, by simp [engineStep, hb, hf, hd, exec_busy i s hb]⟩)

/-- What a step of the machine is, by the agent whose turn it is (00_scope R7). -/
theorem step_eq (s : State) :
    step s = match nextEvent s with
      | .host (.read addr) => .next { beginStep s with rdata := some (hostRead (beginStep s) addr) }
      | .host (.write addr v) => hostWrite addr v (beginStep s)
      | .engine => engineStep (beginStep s)
      | .transport m => .next (transportStep m (beginStep s))
      | .tick => .next (timebaseStep (beginStep s))
      | .reset => .next (resetStep (beginStep s)) := by
  unfold step agentStep
  cases nextEvent s with
  | host t => cases t <;> rfl
  | _ => rfl

end Sys2Proof.Machine
end

