-- ==== Sys2Proof/Laws/HostPort.lean ====
section
/-! SUPPORT. The host port's windows and registers, and all that a WRITE, a TRANSPORT message or a step can do, in arithmetic. -/

namespace Sys2Proof.Machine

/-- The legal parameter values of 00_scope R8. -/
theorem params_wf {p : Config.Params} (h : p.wf = true) :
    (p.dbufBytes % 4 = 0 ∧ 8 ≤ p.dbufBytes ∧ p.dbufBytes ≤ 1024) ∧
    (p.rxbufBytes % 4 = 0 ∧ 68 ≤ p.rxbufBytes ∧ p.rxbufBytes ≤ 1024) ∧ 0 < p.ticksPerMs := by
  simpa [Config.Params.wf, and_assoc] using h

/-! ### Windows (20_memory R62, R63) -/

theorem inDbuf_iff (s : State) (a : Nat) : inDbuf s a = true ↔ 0x400 ≤ a ∧ a < 0x400 + s.params.dbufBytes := by
  unfold inDbuf dbufBase; exact decide_eq_true_iff

theorem inRxbuf_iff (s : State) (a : Nat) : inRxbuf s a = true ↔ 0x800 ≤ a ∧ a < 0x800 + s.params.rxbufBytes := by
  unfold inRxbuf rxbufBase; exact decide_eq_true_iff

theorem inTxbuf_iff (a : Nat) : inTxbuf a = true ↔ 0x40 ≤ a ∧ a < 0x48 := by
  unfold inTxbuf txbufBase; exact decide_eq_true_iff

theorem frozenWhileBusy_iff (s : State) (a : Nat) :
    frozenWhileBusy s a = true ↔
      (a = 0x004 ∨ a = 0x00C ∨ a = 0x010 ∨ a = 0x014 ∨ a = 0x018 ∨ a = 0x01C) ∨
      (0x400 ≤ a ∧ a < 0x400 + s.params.dbufBytes) := by
  unfold frozenWhileBusy; rw [Bool.or_eq_true, decide_eq_true_iff, inDbuf_iff]

/-- Below the windows a READ answers a register. -/
theorem hostRead_register (s : State) (addr : BitVec 12) (h : addr.toNat < 0x40) (h4 : addr.toNat % 4 = 0) :
    hostRead s addr = registerWord s addr.toNat := by
  have hb : (inDbuf s addr.toNat || inRxbuf s addr.toNat || inTxbuf addr.toNat) = false := by
    rw [Bool.eq_false_iff, Ne, Bool.or_eq_true, Bool.or_eq_true, inDbuf_iff, inRxbuf_iff, inTxbuf_iff]; omega
  simp [hostRead, h4, hb]

/-- No register lies at CMD, at 0x03C or from 0x040 on. -/
theorem registerWord_none (s : State) (a : Nat) (h : a = 0x4 ∨ a = 0x3C ∨ 0x40 ≤ a) : registerWord s a = 0#32 := by
  unfold registerWord
  iterate 14 rw [if_neg (by omega)]

/-- STATUS bit by bit (10_state R24). -/
theorem statusWord_getLsbD (s : State) (k : Nat) :
    (statusWord s).getLsbD k =
      if k = 0 then s.busy else if k = 1 then s.done else if k = 2 then s.rv else if k = 3 then s.ovr
      else if k = 4 then s.fatal else if k < 8 then false else if k < 12 then (errCode s.err).getLsbD (k - 8)
      else if k < 16 then false else if k < 19 then (pstateCode s.pstate).getLsbD (k - 16)
      else if k = 19 then s.handle else false := by
  rcases Nat.lt_or_ge k 32 with h | h
  · unfold statusWord
    simp only [BitVec.getLsbD_cast, BitVec.getLsbD_append, BitVec.getLsbD_ofBool]
    interval_cases k <;> simp
  · rw [BitVec.getLsbD_of_ge _ _ h]
    repeat' split
    all_goals first | omega | rfl

/-! ### Acknowledging and waiting -/

theorem acknowledge_eq (v : Word) (s : State) :
    acknowledge v s = { s with done := s.done && !v.getLsbD 1, ovr := s.ovr && !v.getLsbD 3 } := by
  unfold acknowledge; cases v.getLsbD 1 <;> cases v.getLsbD 3 <;> simp

theorem expired_iff (s : State) : expired s = true ↔ s.timeout.toNat < (s.time - s.t0).toNat := by
  unfold expired elapsedTicks; exact decide_eq_true_iff

/-- Validation decides SUCCESS or WRONG_ANSWER and nothing else (42_probe R179). -/
theorem validateDatagram_eq (s : State) :
    validateDatagram s =
      decideOutcome
        (match classifyLen (storedDatagram s) s.rxlen.toNat s.target s.ident s.seq with
          | .matched _ _ => .success
          | .wrong => .wrongAnswer) s := by
  unfold validateDatagram
  cases classifyLen (storedDatagram s) s.rxlen.toNat s.target s.ident s.seq <;> rfl

/-! ### What a WRITE, a TRANSPORT message and a step can do -/

/-- All that presenting or executing a command can do: it always answers a next state. -/
theorem exec_next (i : Instr) (s : State) :
    exec i s = .next (if s.busy then executeStep i s else if s.fatal then reject .halted s
      else if i = .probe then startProbe (accept .probe s) else accept i s) := by
  cases hb : s.busy
  · rw [exec_idle i s hb]; simp
  · rw [exec_busy i s hb]; simp

/-- A WRITE that lands changes one operand register or stores four bytes of DBUF (20_memory R63). -/
theorem writeOperand_cases (a : Nat) (v : Word) (s : State) :
    (∃ x, writeOperand a v s = { s with len := x }) ∨ (∃ x, writeOperand a v s = { s with ident := x }) ∨
    (∃ x, writeOperand a v s = { s with seq := x }) ∨ (∃ x, writeOperand a v s = { s with target := x }) ∨
    (∃ x, writeOperand a v s = { s with timeout := x }) ∨
    (a ≠ 0x00C ∧ a ≠ 0x010 ∧ a ≠ 0x014 ∧ a ≠ 0x018 ∧ a ≠ 0x01C ∧
      writeOperand a v s = storeBytes a (wordBytes v) s) := by
  unfold writeOperand
  split
  · exact .inl ⟨_, rfl⟩
  split
  · exact .inr (.inl ⟨_, rfl⟩)
  split
  · exact .inr (.inr (.inl ⟨_, rfl⟩))
  split
  · exact .inr (.inr (.inr (.inl ⟨_, rfl⟩)))
  split
  · exact .inr (.inr (.inr (.inr (.inl ⟨_, rfl⟩))))
  · exact .inr (.inr (.inr (.inr (.inr ⟨by assumption, by assumption, by assumption, by assumption, by assumption, rfl⟩))))

/-- All that a WRITE answers. -/
theorem hostWrite_next {addr : BitVec 12} {v : Word} {s t : State} (h : hostWrite addr v s = .next t) :
    t = s ∨ t = { s with ie := v.getLsbD 0 } ∨ (addr.toNat = 0x008 ∧ t = acknowledge v s) ∨
    (s.busy = true ∧ frozenWhileBusy s addr.toNat = true ∧ addr.toNat % 4 = 0 ∧ t = { s with ovr := true }) ∨
    (s.busy = false ∧ addr.toNat = 0x004 ∧
      ((s.fatal = true ∧ t = reject .halted s) ∨ (s.fatal = false ∧ t = reject .illegalCmd s) ∨
        (s.fatal = false ∧ t = startProbe (accept .probe s)) ∨
        (s.fatal = false ∧ ∃ i, i ≠ .probe ∧ t = accept i s))) ∨
    (s.busy = false ∧ frozenWhileBusy s addr.toNat = true ∧ addr.toNat % 4 = 0 ∧ addr.toNat ≠ 0x004 ∧
      t = writeOperand addr.toNat v s) := by
  rcases hostWrite_cases addr v s with h' | h' | ⟨ha, h'⟩ | ⟨hb, hf, h4, h'⟩ | ⟨hb, ha, h'⟩ | ⟨hb, hf, h4, hn, h'⟩
  · rw [h'] at h; injection h with h; exact .inl h.symm
  · rw [h'] at h; injection h with h; exact .inr (.inl h.symm)
  · rw [h'] at h; injection h with h; exact .inr (.inr (.inl ⟨ha, h.symm⟩))
  · rw [h'] at h; injection h with h; exact .inr (.inr (.inr (.inl ⟨hb, hf, h4, h.symm⟩)))
  · refine .inr (.inr (.inr (.inr (.inl ⟨hb, ha, ?_⟩))))
    rw [h'] at h
    rcases presentWord_idle v s hb with ⟨i, -, hp⟩ | ⟨e, -, hp⟩
    · rw [hp, exec_idle i s hb] at h
      injection h with h
      cases hf : s.fatal
      · rw [hf] at h
        by_cases hi : i = .probe
        · exact .inr (.inr (.inl ⟨rfl, by simpa [hi] using h.symm⟩))
        · exact .inr (.inr (.inr ⟨rfl, i, hi, by simpa [hi] using h.symm⟩))
      · exact .inl ⟨rfl, by simpa [hf] using h.symm⟩
    · rw [hp] at h
      injection h with h
      cases hf : s.fatal
      · exact .inr (.inl ⟨rfl, by simpa [hf] using h.symm⟩)
      · exact .inl ⟨rfl, by simpa [hf] using h.symm⟩
  · rw [h'] at h; injection h with h; exact .inr (.inr (.inr (.inr (.inr ⟨hb, hf, h4, hn, h.symm⟩))))

/-- All that a TRANSPORT message can do (42_probe R172 to R177, R180). -/
theorem transportStep_cases (m : TransportMsg) (s : State) :
    transportStep m s = s ∨
    (m = .openRsp true ∧ s.pstate = .opening ∧ s.treq = .openReq ∧ transportStep m s = openSucceeds s) ∨
    (m = .openRsp false ∧ s.pstate = .opening ∧ s.treq = .openReq ∧ transportStep m s = openFails s) ∨
    (∃ ok, m = .sendRsp ok ∧ s.pstate = .sending ∧ s.treq = .send ∧ transportStep m s = sendAnswered ok s) ∨
    (∃ d, m = .rx d ∧ s.pstate = .sent ∧ d.length ≤ 65535 ∧ transportStep m s = datagramArrives d s) ∨
    (m = .fault ∧ s.pstate = .sent ∧ transportStep m s = transportFaults s) := by
  cases m with
  | openRsp ok =>
    by_cases h : s.pstate = .opening ∧ s.treq = .openReq <;> cases ok <;> simp [transportStep, h]
  | sendRsp ok => by_cases h : s.pstate = .sending ∧ s.treq = .send <;> simp [transportStep, h]
  | rx d => by_cases h : s.pstate = .sent ∧ d.length ≤ 65535 <;> simp [transportStep, h]
  | fault => by_cases h : s.pstate = .sent <;> simp [transportStep, h]

/-- All that a step of the machine can do (00_scope R7). -/
theorem step_next {s t : State} (h : step s = .next t) :
    (∃ a, nextEvent s = .host (.read a) ∧ t = { beginStep s with rdata := some (hostRead (beginStep s) a) }) ∨
    (∃ a v, nextEvent s = .host (.write a v) ∧ hostWrite a v (beginStep s) = .next t) ∨
    (nextEvent s = .engine ∧
      ((s.busy = false ∨ s.fatal = true) ∧ t = beginStep s ∨
        s.busy = true ∧ s.fatal = false ∧ ∃ i, decodeOp s.curop = some i ∧ t = executeStep i (beginStep s))) ∨
    (∃ m, nextEvent s = .transport m ∧ t = transportStep m (beginStep s)) ∨
    (nextEvent s = .tick ∧ t = timebaseStep (beginStep s)) ∨
    (nextEvent s = .reset ∧ t = resetStep (beginStep s)) := by
  rw [step_eq] at h
  cases he : nextEvent s with
  | host x => cases x with
    | read a => rw [he] at h; injection h with h; exact .inl ⟨a, rfl, h.symm⟩
    | write a v => rw [he] at h; exact .inr (.inl ⟨a, v, rfl, h⟩)
  | engine =>
    rw [he] at h
    refine .inr (.inr (.inl ⟨rfl, ?_⟩))
    rcases engineStep_cases (beginStep s) with ⟨hb, h'⟩ | ⟨hb, hf, i, hd, h'⟩ | ⟨-, -, -, h'⟩
    · rw [show engineStep (beginStep s) = _ from h'] at h; injection h with h; exact .inl ⟨hb, h.symm⟩
    · rw [show engineStep (beginStep s) = _ from h'] at h; injection h with h; exact .inr ⟨hb, hf, i, hd, h.symm⟩
    · rw [show engineStep (beginStep s) = _ from h'] at h; cases h
  | transport m => rw [he] at h; injection h with h; exact .inr (.inr (.inr (.inl ⟨m, rfl, h.symm⟩)))
  | tick => rw [he] at h; injection h with h; exact .inr (.inr (.inr (.inr (.inl ⟨rfl, h.symm⟩))))
  | reset => rw [he] at h; injection h with h; exact .inr (.inr (.inr (.inr (.inr ⟨rfl, h.symm⟩))))

end Sys2Proof.Machine
end

