-- ==== Sys2Proof/Laws/PerInstr.lean ====
section
/-! SUPPORT. Facts about the syntax, one lemma per constructor of Instr. -/

namespace Sys2Proof.Laws

/-- The family: a command's word has OP from 1 to 6 and RSVD 0, so it fits the CMD32 format (30_encoding R90, R91). -/
def WordFormat.Statement (i : Instr) : Prop :=
  rsvdField (encode i) = 0#24 ∧ 1 ≤ (opField (encode i)).toNat ∧ (opField (encode i)).toNat ≤ 6 ∧ i.wf = true

theorem WordFormat.foldsum : WordFormat.Statement .foldsum := by unfold WordFormat.Statement; decide
theorem WordFormat.cksum : WordFormat.Statement .cksum := by unfold WordFormat.Statement; decide
theorem WordFormat.compose : WordFormat.Statement .compose := by unfold WordFormat.Statement; decide
theorem WordFormat.parse : WordFormat.Statement .parse := by unfold WordFormat.Statement; decide
theorem WordFormat.validate : WordFormat.Statement .validate := by unfold WordFormat.Statement; decide
theorem WordFormat.probe : WordFormat.Statement .probe := by unfold WordFormat.Statement; decide

end Sys2Proof.Laws
end

