-- ==== Sys2Proof/Laws/Words.lean ====
section
/-! SUPPORT. Byte order and the unfolded word sum, in arithmetic. -/

namespace Sys2Proof.Machine

/-- `be16` of 00_scope R11 as a number. -/
theorem be16_toNat (a b : Byte) : (be16 a b).toNat = a.toNat * 256 + b.toNat := by
  unfold be16
  rw [BitVec.toNat_cast, BitVec.toNat_append, Nat.shiftLeft_eq, Nat.mul_comm, ← Nat.two_pow_add_eq_or_of_lt (b.isLt)]

/-- The two bytes of a 16-bit value, high byte first, read back as it. -/
theorem be16_halfBytes (h : Half) : be16 (h.extractLsb' 8 8) (h.extractLsb' 0 8) = h := by
  rw [← BitVec.toNat_inj, be16_toNat]
  simp only [BitVec.extractLsb'_toNat, Nat.shiftRight_eq_div_pow]
  have := h.isLt
  omega

/-- A 16-bit field adds its value to the word sum of the bytes it stands before. -/
theorem wordSum_halfBytes (h : Half) (r : List Byte) : wordSum (halfBytes h ++ r) = h.toNat + wordSum r := by
  simp only [halfBytes, List.cons_append, List.nil_append, wordSum, be16_toNat]
  congr 1
  simp only [BitVec.extractLsb'_toNat, Nat.shiftRight_eq_div_pow]
  have := h.isLt
  omega

/-- Word sums add over a concatenation whose first part has an even length. -/
theorem wordSum_append (A C : List Byte) (h : A.length % 2 = 0) : wordSum (A ++ C) = wordSum A + wordSum C := by
  fun_induction wordSum A with
  | case1 b0 b1 rest ih =>
    simp only [List.length_cons] at h
    simp only [List.cons_append, wordSum]
    rw [ih (by omega)]; omega
  | case2 A hA =>
    match A, hA with
    | [], _ => simp
    | [x], _ => simp at h
    | x :: y :: r, hA => exact absurd rfl (hA x y r)

end Sys2Proof.Machine
end

