-- ==== Sys2Proof/Tests/Slice0.lean ====
section
/-! SUPPORT. Small tests on values of the spec (30_encoding R91, the examples of the command rules, 95_test_vectors), the
checks of WellFormed on ill-formed terms, and for every obligation with hypotheses a witness that meets them. -/

namespace Sys2Proof.Tests

open Sys2Proof Sys2Proof.Machine

/-! ### Helpers -/

/-- One field of the next state, if there is one. -/
def after {α : Type} (o : Host.Outcome State Fault Refusal) (f : State → α) : Option α :=
  match o with
  | .next s => some (f s)
  | .fault _ => none
  | .refused _ => none

/-- An engine executing command `i` on `bs` in DBUF with LEN = `n`. -/
def running (i : Instr) (bs : List Byte) (n : Nat) : State :=
  { storeBytes dbufBase bs State.reset with len := BitVec.ofNat 16 n, busy := true, curop := opcode i }

/-- A probe of 192.0.2.1 with IDENT 1234 and SEQ 1 in sequencer state `p`. -/
def probing (p : PState) : State :=
  { State.reset with
    busy := true, curop := opcode .probe, pstate := p, target := 0xC0000201#32, ident := 0x04D2#16, seq := 0x0001#16
    timeout := 2000#32 }

/-- `probing` in SENT, `e` ticks after the send. -/
def waiting (e : Nat) : State := { probing .sent with handle := true, time := BitVec.ofNat 64 e }

/-- A state whose next step is `e`. -/
def turn (e : Event) (s : State) : State := { s with agenda := [e] }

/-- Vector W1's placeholder: the message of R123's example. -/
def placeholder : List Byte := [0x08#8, 0x00#8, 0x00#8, 0x00#8, 0x04#8, 0xD2#8, 0x00#8, 0x01#8]

/-- The reply of R146's example. -/
def reply1 : List Byte := [0x00#8, 0x00#8, 0xFB#8, 0x2C#8, 0x04#8, 0xD2#8, 0x00#8, 0x01#8]

/-- The IPv4 header of R165's example. -/
def header1 : List Byte :=
  [0x45#8, 0x00#8, 0x00#8, 0x1C#8, 0x00#8, 0x00#8, 0x00#8, 0x00#8, 0x40#8, 0x01#8, 0x00#8, 0x00#8,
   0xC0#8, 0x00#8, 0x02#8, 0x01#8, 0xC0#8, 0x00#8, 0x02#8, 0x64#8]

/-- The datagram of R165's example (VA1). -/
def datagram1 : List Byte := header1 ++ reply1

/-- Vector VA10: the reply carries sequence 2, with a valid checksum. -/
def datagram10 : List Byte := header1 ++ [0x00#8, 0x00#8, 0xFB#8, 0x2B#8, 0x04#8, 0xD2#8, 0x00#8, 0x02#8]

/-- A VALIDATE of `bs` as `n` bytes against 192.0.2.1, 1234 and 1. -/
def validating (bs : List Byte) (n : Nat) : State :=
  { running .validate bs n with target := 0xC0000201#32, ident := 0x04D2#16, seq := 0x0001#16 }

/-- A probe that has accepted datagram `d` after 1500 ticks. -/
def received (d : List Byte) : State :=
  { storeBytes rxbufBase (d.take 128) (probing .received) with
    handle := true, rxlen := BitVec.ofNat 16 d.length, elapsed := 1500#32 }

/-- The engine after the InvalidLengthError of ER1. -/
def halted : State := { State.reset with fatal := true, err := .invalidLength, done := true }

/-! ### Well-formedness: each check refuses an ill-formed term -/

theorem test_rx_of_65536_bytes_is_ill_formed : (TransportMsg.rx (List.replicate 65536 0#8)).wf = false := by
  rw [TransportMsg.wf, List.length_replicate]; decide

theorem test_event_of_ill_formed_rx_is_ill_formed :
    (Event.transport (.rx (List.replicate 65536 0#8))).wf = false := by
  rw [Event.wf, TransportMsg.wf, List.length_replicate]; decide

theorem test_rx_of_65535_bytes_is_well_formed : (TransportMsg.rx (List.replicate 65535 0#8)).wf = true := by
  rw [TransportMsg.wf, List.length_replicate]; decide

theorem test_dbuf_of_258_bytes_is_ill_formed : ({ Config.defaultParams with dbufBytes := 258 }).wf = false := by decide

theorem test_dbuf_of_1028_bytes_is_ill_formed : ({ Config.defaultParams with dbufBytes := 1028 }).wf = false := by decide

theorem test_rxbuf_of_64_bytes_is_ill_formed : ({ Config.defaultParams with rxbufBytes := 64 }).wf = false := by decide

theorem test_zero_ticks_per_ms_is_ill_formed : ({ Config.defaultParams with ticksPerMs := 0 }).wf = false := by decide

theorem test_every_command_is_well_formed :
    (Instr.foldsum.wf && Instr.cksum.wf && Instr.compose.wf && Instr.parse.wf && Instr.validate.wf &&
      Instr.probe.wf) = true := by decide

/-! ### Decoding: each word of 30_encoding R91, written out bit by bit -/

theorem test_decode_foldsum : decode 0b00000000000000000000000000000001#32 = .ok .foldsum := by decide
theorem test_decode_cksum : decode 0b00000000000000000000000000000010#32 = .ok .cksum := by decide
theorem test_decode_compose : decode 0b00000000000000000000000000000011#32 = .ok .compose := by decide
theorem test_decode_parse : decode 0b00000000000000000000000000000100#32 = .ok .parse := by decide
theorem test_decode_validate : decode 0b00000000000000000000000000000101#32 = .ok .validate := by decide
theorem test_decode_probe : decode 0b00000000000000000000000000000110#32 = .ok .probe := by decide
theorem test_decode_refuses_rsvd : decode 0b10000000000000000000000000000001#32 = .error .reservedNotZero := by decide
theorem test_decode_refuses_op_7 : decode 0b00000000000000000000000000000111#32 = .error .illegalOpcode := by decide
theorem test_table_word : decodeTableWord 32 5 = some .validate := by decide
theorem test_table_word_too_wide : decodeTableWord 64 0x100000001 = none := by decide

theorem test_with_fetch_word_runs_it :
    after (step (State.reset.withFetchWord 32 4)) (fun t => (t.curop, t.busy)) = some (0x04#8, true) := by decide

/-! ### One step of each command -/

/-- R123's example. -/
theorem test_foldsum_example :
    after (exec .foldsum (running .foldsum placeholder 8)) (fun t => (t.result, t.busy, t.done)) =
      some (0x00000CD3#32, false, true) := by decide +kernel

/-- Vector FS8: two folds. -/
theorem test_foldsum_folds_twice :
    after (exec .foldsum (running .foldsum [0xFF#8, 0xFF#8, 0xFF#8, 0xFF#8, 0x00#8, 0x01#8] 6)) (·.result) =
      some 0x00000001#32 := by decide +kernel

/-- R125's example. -/
theorem test_cksum_example :
    after (exec .cksum (running .cksum placeholder 8)) (fun t => (t.result, t.err)) =
      some (0x0000F32C#32, .none) := by decide +kernel

/-- R125: an odd length is fatal and leaves RESULT. -/
theorem test_cksum_odd_length :
    after (exec .cksum (running .cksum placeholder 7)) (fun t => (t.fatal, t.err, t.busy, t.result)) =
      some (true, .invalidLength, false, 0#32) := by decide

/-- R144's example. -/
theorem test_compose_example :
    after (exec .compose { running .compose [] 0 with ident := 0x04D2#16, seq := 0x0001#16 })
      (fun t => (t.result, readBytes t txbufBase 8)) =
      some (0x0000F32C#32, [0x08#8, 0x00#8, 0xF3#8, 0x2C#8, 0x04#8, 0xD2#8, 0x00#8, 0x01#8]) := by decide +kernel

/-- R144: IDENT = 0xF7FF and SEQ = 0 give checksum 0. -/
theorem test_compose_zero_checksum :
    after (exec .compose { running .compose [] 0 with ident := 0xF7FF#16 }) (·.result) = some 0#32 := by decide +kernel

/-- R146's example. -/
theorem test_parse_example :
    after (exec .parse (running .parse reply1 8)) (fun t => (t.rv, t.result)) = some (true, 0x04D20001#32) := by
  decide +kernel

/-- R146: an Echo Request gives no value. -/
theorem test_parse_request :
    after (exec .parse (running .parse [0x08#8, 0x00#8, 0xF3#8, 0x2C#8, 0x04#8, 0xD2#8, 0x00#8, 0x01#8] 8))
      (fun t => (t.rv, t.result, t.err)) = some (false, 0#32, .none) := by decide +kernel

/-- R165's example. -/
theorem test_validate_example :
    after (exec .validate (validating datagram1 28)) (fun t => (t.rv, t.result)) = some (true, 0x04D20001#32) := by
  decide +kernel

/-- Vector VA10. -/
theorem test_validate_wrong_sequence :
    after (exec .validate (validating datagram10 28)) (fun t => (t.rv, t.result, t.done)) =
      some (false, 0#32, true) := by decide +kernel

/-- R171. -/
theorem test_probe_acceptance :
    after (exec .probe State.reset) (fun t => (t.pstate, t.treq, t.issued, t.busy)) =
      some (.opening, .openReq, some .openReq, true) := by decide

/-- R170's example: SUCCESS after 1500 ticks has LATENCY 2. -/
theorem test_probe_release :
    after (exec .probe { probing .releasing with pres := .success, elapsed := 1500#32 })
      (fun t => (t.presult, t.latency, t.issued, t.busy)) = some (.success, 2#32, some .close, false) := by
  decide +kernel

/-! ### Codes the host reads (95_test_vectors HP7, ER1 to ER3, PR1, and the steps of its probe) -/

theorem test_rejected_words_in_status :
    after (hostWrite 0x004#12 0#32 State.reset) (hostRead · 0x008#12) = some 0x00000302#32 ∧
    after (hostWrite 0x004#12 2#32 halted) (hostRead · 0x008#12) = some 0x00000412#32 ∧
    after (hostWrite 0x004#12 0#32 halted) (hostRead · 0x008#12) = some 0x00000412#32 ∧
    hostRead halted 0x008#12 = 0x00000112#32 := by decide

theorem test_probe_states_in_status :
    after (hostWrite 0x004#12 6#32 State.reset) (hostRead · 0x008#12) = some 0x00010001#32 ∧
    hostRead { probing .sending with handle := true } 0x008#12 = 0x000A0001#32 ∧
    hostRead { probing .sent with handle := true } 0x008#12 = 0x000B0001#32 ∧
    hostRead { probing .received with handle := true } 0x008#12 = 0x000C0001#32 := by decide

theorem test_probe_outcomes_in_presult :
    hostRead { State.reset with presult := .success } 0x024#12 = 1#32 ∧
    hostRead { State.reset with presult := .timedOut } 0x024#12 = 2#32 ∧
    hostRead { State.reset with presult := .wrongAnswer } 0x024#12 = 3#32 ∧
    hostRead { State.reset with presult := .socketError } 0x024#12 = 4#32 := by decide

/-! ### Witnesses: states and operands that meet the hypotheses of the obligations -/

theorem witness_StepPerformsTheNextAgentStep :
    (turn .tick State.reset).agenda = .tick :: [] ∧ State.reset.agenda = [] := by decide

theorem witness_PresentingStepRunsTheCommand :
    (turn (.host (.write 0x004#12 0x00000006#32)) State.reset).agenda = .host (.write 0x004#12 0x00000006#32) :: [] ∧
    State.reset.busy = false ∧ decode 0x00000006#32 = .ok .probe := by decide

theorem witness_EngineStepRunsTheCommandInCurop :
    let s := turn .engine (running .parse reply1 8)
    s.agenda = .engine :: [] ∧ s.busy = true ∧ s.fatal = false ∧ s.curop = opcode .parse ∧
    (turn .engine State.reset).agenda = .engine :: [] ∧ (turn .engine State.reset).busy = false ∧
    { turn .engine State.reset with fatal := true }.fatal = true := by decide

theorem witness_PresentationIsDecidedInOrder :
    (probing .sent).busy = true ∧
    ({ State.reset with fatal := true }.busy = false ∧ { State.reset with fatal := true }.fatal = true) ∧
    (State.reset.busy = false ∧ State.reset.fatal = false ∧ ¬ (1 ≤ (0#32).toNat ∧ (0#32).toNat ≤ 6) ∧
      ¬ (1 ≤ (7#32).toNat ∧ (7#32).toNat ≤ 6) ∧ ¬ (1 ≤ (0x101#32).toNat ∧ (0x101#32).toNat ≤ 6)) ∧
    (1 ≤ (1#32).toNat ∧ (1#32).toNat ≤ 5 ∧ 1 ≤ (5#32).toNat ∧ (5#32).toNat ≤ 5) ∧ (6#32).toNat = 6 := by decide

theorem witness_ProbeAcceptanceOpensTransport : State.reset.busy = false ∧ State.reset.fatal = false := by decide

theorem witness_FrozenWritesWhileBusySetOvrOnly :
    (probing .sent).busy = true ∧
    ((0x400#12).toNat % 4 = 0 ∧ 0x400 ≤ (0x400#12).toNat ∧
      (0x400#12).toNat < 0x400 + (probing .sent).params.dbufBytes) ∧
    ((0x4FC#12).toNat % 4 = 0 ∧ 0x400 ≤ (0x4FC#12).toNat ∧
      (0x4FC#12).toNat < 0x400 + (probing .sent).params.dbufBytes) := by decide

theorem witness_OperandWritesReadBack : State.reset.busy = false := by decide

/-- The first and the last word of each window. -/
theorem witness_BufferWordsAreBigEndian :
    State.reset.params.wf = true ∧ State.reset.busy = false ∧
    ((0x400#12).toNat % 4 = 0 ∧ 0x400 ≤ (0x400#12).toNat ∧ (0x400#12).toNat < 0x400 + State.reset.params.dbufBytes) ∧
    ((0x4FC#12).toNat % 4 = 0 ∧ 0x400 ≤ (0x4FC#12).toNat ∧ (0x4FC#12).toNat < 0x400 + State.reset.params.dbufBytes) ∧
    ((0x040#12).toNat % 4 = 0 ∧ 0x040 ≤ (0x040#12).toNat ∧ (0x044#12).toNat % 4 = 0 ∧ (0x044#12).toNat < 0x048) ∧
    ((0x800#12).toNat % 4 = 0 ∧ 0x800 ≤ (0x800#12).toNat ∧ (0x87C#12).toNat % 4 = 0 ∧
      (0x87C#12).toNat < 0x800 + State.reset.params.rxbufBytes) := by decide

/-- A boundary of each reserved range, and a misaligned address. -/
theorem witness_ReservedAndMisalignedAccess :
    State.reset.params.wf = true ∧ (0x001#12).toNat % 4 ≠ 0 ∧ (0x03C#12).toNat = 0x03C ∧
    (0x048 ≤ (0x048#12).toNat ∧ (0x3FC#12).toNat ≤ 0x3FF) ∧
    (0x400 + State.reset.params.dbufBytes ≤ (0x500#12).toNat ∧ (0x7FC#12).toNat ≤ 0x7FF) ∧
    (0x800 + State.reset.params.rxbufBytes ≤ (0x880#12).toNat ∧ (0xBFC#12).toNat ≤ 0xBFF) ∧
    0xC00 ≤ (0xC00#12).toNat ∧ 0xC00 ≤ (0xFFC#12).toNat := by decide

theorem witness_ReadOnlyAddressesIgnoreWrites :
    State.reset.params.wf = true ∧ (0x020 ≤ (0x020#12).toNat ∧ (0x038#12).toNat ≤ 0x038) ∧
    (0x040 ≤ (0x040#12).toNat ∧ (0x047#12).toNat ≤ 0x047) ∧
    (0x800 ≤ (0x800#12).toNat ∧ (0x87F#12).toNat < 0x800 + State.reset.params.rxbufBytes) := by decide

theorem witness_InterruptFollowsDone : (2#32).getLsbD 1 = true ∧ (0#32).getLsbD 1 = false := by decide

theorem witness_TimeMovesByTicksAndReset :
    (∃ t, step (turn .tick State.reset) = .next t ∧ nextEvent (turn .tick State.reset) = .tick) ∧
    (∃ t, step (turn .reset State.reset) = .next t ∧ nextEvent (turn .reset State.reset) = .reset) ∧
    (∃ t, step (turn .engine State.reset) = .next t ∧ nextEvent (turn .engine State.reset) ≠ .tick ∧
      nextEvent (turn .engine State.reset) ≠ .reset) :=
  ⟨⟨_, rfl, rfl⟩, ⟨_, rfl, rfl⟩, ⟨_, rfl, by decide, by decide⟩⟩

theorem witness_OverrunIsSetByIgnoredWritesOnly :
    (∃ t, step (turn (.host (.write 0x4FC#12 1#32)) (probing .sent)) = .next t ∧ (probing .sent).ovr = false ∧
      t.ovr = true ∧ (probing .sent).busy = true ∧
      nextEvent (turn (.host (.write 0x4FC#12 1#32)) (probing .sent)) = .host (.write 0x4FC#12 1#32) ∧
      (0x4FC#12).toNat % 4 = 0 ∧ 0x400 ≤ (0x4FC#12).toNat ∧
      (0x4FC#12).toNat < 0x400 + (probing .sent).params.dbufBytes) ∧
    (∃ t, step (turn (.host (.write 0x008#12 8#32)) { State.reset with ovr := true }) = .next t ∧ t.ovr = false) ∧
    (∃ t, step (turn .reset { State.reset with ovr := true }) = .next t ∧ t.ovr = false) :=
  ⟨⟨_, rfl, by decide⟩, ⟨_, rfl, by decide⟩, ⟨_, rfl, by decide⟩⟩

theorem witness_FatalIsStickyUntilReset :
    (∃ t, step (turn .reset { State.reset with fatal := true }) = .next t ∧ t.fatal = false) ∧
    (∃ t, step (turn .engine (running .parse reply1 9)) = .next t ∧ (running .parse reply1 9).fatal = false ∧
      t.fatal = true) ∧
    ({ State.reset with fatal := true }.fatal = true ∧ { State.reset with fatal := true }.busy = false) :=
  ⟨⟨_, rfl, by decide⟩, ⟨_, rfl, by decide⟩, by decide⟩

/-- LEN at 256 (the capacity), 257 and 1. -/
theorem witness_FoldsumWritesFoldedSum :
    let s := running .foldsum [] 256
    s.busy = true ∧ s.len.toNat ≤ s.params.dbufBytes ∧ s.len.toNat % 2 = 0 ∧
    s.params.dbufBytes < (running .foldsum [] 257).len.toNat ∧ (running .foldsum [] 1).len.toNat % 2 = 1 := by decide

theorem witness_CksumWritesChecksum :
    let s := running .cksum [] 256
    s.busy = true ∧ s.len.toNat ≤ s.params.dbufBytes ∧ s.len.toNat % 2 = 0 ∧
    s.params.dbufBytes < (running .cksum [] 258).len.toNat ∧ (running .cksum [] 255).len.toNat % 2 = 1 := by decide

theorem witness_FoldedSumClosedForm :
    wordSum [0x00#8, 0x00#8] = 0 ∧ 0 < wordSum [0xFF#8, 0xFF#8] ∧ [0xFF#8, 0xFF#8].length % 2 = 0 := by decide

theorem witness_ChecksumInsertionFoldsToAllOnes :
    [0x08#8, 0x00#8].length % 2 = 0 ∧ [0x04#8, 0xD2#8, 0x00#8, 0x01#8].length % 2 = 0 := by decide

theorem witness_FoldedSumWordLaws :
    [(0x08#8, 0x00#8), (0x04#8, 0xD2#8)].Perm [(0x04#8, 0xD2#8), (0x08#8, 0x00#8)] ∧
    placeholder.length % 2 = 0 ∧ foldedSum placeholder ≠ 0 ∧ foldedSum [0x00#8, 0x00#8] = 0 ∧
    foldedSum reply1 = 0xFFFF ∧ 7 < reply1.length := by decide +kernel

theorem witness_ComposeWritesTheRequest : (running .compose [] 0).busy = true := by decide

theorem witness_ParseWritesTheValue :
    (running .parse reply1 8).busy = true ∧ (running .parse reply1 8).len.toNat = 8 ∧
    parseMsg ((List.range 8).map fun k => readByte (running .parse reply1 8) (0x400 + k)) =
      some (0x04D2#16, 0x0001#16) ∧
    parseMsg ((List.range 8).map fun k => readByte (running .parse placeholder 8) (0x400 + k)) = none ∧
    (running .parse reply1 7).len.toNat ≠ 8 ∧ (running .parse reply1 9).len.toNat ≠ 8 := by decide +kernel

theorem witness_ParseAcceptsExactlyWellFormedReplies :
    reply1.length = 8 ∧ parseMsg reply1 = some (0x04D2#16, 0x0001#16) := by decide +kernel

/-- 41_codec R147 on identifier 1234 and sequence 1, and on identifier 0xFFFF and sequence 0, where c'' is not c'. -/
theorem witness_ReplyRoundTrip :
    (composeMsg 0x04D2#16 0x0001#16 =
        some ([0x08#8, 0x00#8, 0xF3#8, 0x2C#8, 0x04#8, 0xD2#8, 0x00#8, 0x01#8], 0xF32C#16) ∧
      checksum (echoMsg 0#8 0#16 0x04D2#16 0x0001#16) = 0xFB2C#16 ∧ (0xFB2C#16).toNat = fold (0xF32C + 0x0800) ∧
      ¬ (0 < (0x04D2#16).toNat + (0x0001#16).toNat ∧ ((0x04D2#16).toNat + (0x0001#16).toNat) % 0xFFFF = 0)) ∧
    (composeMsg 0xFFFF#16 0x0000#16 =
        some ([0x08#8, 0x00#8, 0xF7#8, 0xFF#8, 0xFF#8, 0xFF#8, 0x00#8, 0x00#8], 0xF7FF#16) ∧
      checksum (echoMsg 0#8 0#16 0xFFFF#16 0x0000#16) = 0x0000#16 ∧ (0xFFFF#16).toNat = fold (0xF7FF + 0x0800) ∧
      0 < (0xFFFF#16).toNat + (0x0000#16).toNat ∧ ((0xFFFF#16).toNat + (0x0000#16).toNat) % 0xFFFF = 0) := by
  decide +kernel

theorem witness_SingleBitFlipIsRefused :
    reply1.length = 8 ∧ foldedSum reply1 = 0xFFFF ∧ reply1.getD 0 0#8 = 0#8 ∧ reply1.getD 1 0#8 = 0#8 ∧ 7 < 8 := by
  decide +kernel

/-- A match, a mismatch, LEN = 256 and LEN = 257. -/
theorem witness_ValidateWritesTheVerdict :
    (validating datagram1 28).busy = true ∧
    (validating datagram1 28).len.toNat ≤ (validating datagram1 28).params.dbufBytes ∧
    classify ((List.range 28).map fun k => readByte (validating datagram1 28) (0x400 + k)) 0xC0000201#32 0x04D2#16
      0x0001#16 = .matched 0x04D2#16 0x0001#16 ∧
    classify ((List.range 28).map fun k => readByte (validating datagram10 28) (0x400 + k)) 0xC0000201#32 0x04D2#16
      0x0001#16 = .wrong ∧
    (validating [] 256).len.toNat ≤ (validating [] 256).params.dbufBytes ∧
    (validating [] 257).params.dbufBytes < (validating [] 257).len.toNat := by decide +kernel

theorem witness_ClassifyMatchesExactly :
    classify datagram1 0xC0000201#32 0x04D2#16 0x0001#16 = .matched 0x04D2#16 0x0001#16 := by decide +kernel

/-- The datagram of R165 with another TTL (byte 8). -/
theorem witness_ClassifyReadsOnlyNamedFields :
    datagram1.length = (datagram1.set 8 0x01#8).length ∧ datagram1 ≠ datagram1.set 8 0x01#8 ∧
    ∀ k, (k = 0 ∨ k = 9 ∨ (12 ≤ k ∧ k ≤ 15) ∨ (datagram1.getD 0 0#8).toNat % 16 * 4 ≤ k) →
      datagram1.getD k 0#8 = (datagram1.set 8 0x01#8).getD k 0#8 := by
  refine ⟨by decide, by decide, fun k hk => ?_⟩
  have h : k ≠ 8 := by
    rintro rfl
    revert hk
    decide
  simp [List.getD_eq_getElem?_getD, h.symm]

theorem witness_ValidationJudgesTheStoredDatagram :
    (received datagram1).busy = true ∧ (received datagram1).pstate = .received ∧
    classifyLen (storedDatagram (received datagram1)) 28 0xC0000201#32 0x04D2#16 0x0001#16 =
      .matched 0x04D2#16 0x0001#16 ∧
    classifyLen (storedDatagram (received datagram10)) 28 0xC0000201#32 0x04D2#16 0x0001#16 = .wrong ∧ 68 ≤ 68 := by
  decide +kernel

/-- TICKS_PER_MS = 1000 and the corner cases of 42_probe R164. -/
theorem witness_LatencyRoundsHalfToEven :
    0 < 1000 ∧ 2 * (499 % 1000) < 1000 ∧ 1000 < 2 * (501 % 1000) ∧ 2 * (1500 % 1000) = 1000 ∧ 1500 ≤ 2500 ∧
    latencyMs 1000 500 = 0 ∧ latencyMs 1000 501 = 1 ∧ latencyMs 1000 1500 = 2 ∧ latencyMs 1000 2500 = 2 := by decide

/-- `probing .opening` with OPEN outstanding. -/
def opening : State := { probing .opening with treq := .openReq }

/-- `probing .sending` with SEND outstanding. -/
def sending : State := { probing .sending with treq := .send, handle := true }

theorem witness_OpenSucceedsSendsTheRequest : opening.pstate = .opening ∧ opening.treq = .openReq := by decide

theorem witness_OpenFailureIsSocketError : opening.pstate = .opening ∧ opening.treq = .openReq := by decide

theorem witness_SendAnswerStampsOrFails : sending.pstate = .sending ∧ sending.treq = .send := by decide

/-- The last tick of the window and the first after it. -/
theorem witness_DatagramAcceptedWithinWindow :
    (waiting 2000).pstate = .sent ∧ datagram1.length ≤ 65535 ∧
    ((waiting 2000).time - (waiting 2000).t0).toNat ≤ (waiting 2000).timeout.toNat ∧
    (waiting 2001).timeout.toNat < ((waiting 2001).time - (waiting 2001).t0).toNat := by decide

theorem witness_TransportFaultWithinWindow :
    (waiting 2000).pstate = .sent ∧
    ((waiting 2000).time - (waiting 2000).t0).toNat ≤ (waiting 2000).timeout.toNat ∧
    (waiting 2001).timeout.toNat < ((waiting 2001).time - (waiting 2001).t0).toNat := by decide

theorem witness_TransportSpeaksOnlyWhenAwaited :
    (State.reset.pstate ≠ .opening ∨ State.reset.treq ≠ .openReq) ∧
    (opening.pstate ≠ .sending ∨ opening.treq ≠ .send) ∧ (probing .received).pstate ≠ .sent := by decide

theorem witness_TimeoutDetectorFiresAfterTheWindow :
    (waiting 2001).busy = true ∧ (waiting 2001).pstate = .sent ∧
    (waiting 2001).timeout.toNat < ((waiting 2001).time - (waiting 2001).t0).toNat ∧
    ((waiting 2000).time - (waiting 2000).t0).toNat ≤ (waiting 2000).timeout.toNat ∧
    (opening.busy = true ∧ opening.pstate = .opening) ∧ (sending.busy = true ∧ sending.pstate = .sending) := by decide

theorem witness_AcceptedDatagramIsJudgedWhole :
    (waiting 1500).params.wf = true ∧ (waiting 1500).busy = true ∧ (waiting 1500).pstate = .sent ∧
    datagram1.length ≤ 65535 ∧ ((waiting 1500).time - (waiting 1500).t0).toNat ≤ (waiting 1500).timeout.toNat ∧
    (∃ t, agentStep (.transport (.rx datagram1)) (waiting 1500) = .next t) ∧
    classify datagram1 (waiting 1500).target (waiting 1500).ident (waiting 1500).seq =
      .matched 0x04D2#16 0x0001#16 ∧
    classify datagram10 (waiting 1500).target (waiting 1500).ident (waiting 1500).seq = .wrong :=
  ⟨by decide, by decide, by decide, by decide, by decide, ⟨_, rfl⟩, by decide +kernel, by decide +kernel⟩

theorem witness_ReleasePublishesTheOutcome :
    (probing .releasing).busy = true ∧ (probing .releasing).pstate = .releasing := by decide

/-- The sequencer's relations hold of the small states the tests use. -/
theorem opening_inv : SequencerInv opening :=
  ⟨by decide, fun _ => ⟨.probe, rfl⟩, by decide, by decide, by decide, by decide, by decide⟩

theorem sending_inv : SequencerInv sending :=
  ⟨by decide, fun _ => ⟨.probe, rfl⟩, by decide, by decide, by decide, by decide, by decide⟩

theorem received_inv : SequencerInv (received datagram1) :=
  ⟨by decide, fun _ => ⟨.probe, rfl⟩, by decide, by decide, by decide, by decide, by decide⟩

/-- `received datagram1` with the next step decided. -/
theorem turn_inv (e : Event) {s : State} (h : SequencerInv s) : SequencerInv (turn e s) :=
  ⟨h.busyClean, h.curopLegal, h.probing, h.handleHeld, h.openOutstanding, h.sendOutstanding, h.halted⟩

theorem waiting_inv (e : Nat) : SequencerInv (waiting e) :=
  ⟨fun _ => ⟨rfl, rfl, rfl, rfl⟩, fun _ => ⟨.probe, rfl⟩, by simp [waiting, probing], by simp [waiting, probing],
    by simp [waiting, probing, State.reset], by simp [waiting, probing, State.reset],
    by simp [waiting, probing, State.reset]⟩

theorem releasing_inv : SequencerInv { probing .releasing with handle := true, pres := .timedOut } :=
  ⟨by decide, fun _ => ⟨.probe, rfl⟩, by decide, by decide, by decide, by decide, by decide⟩

/-- One step along each path of 42_probe R189 that decides an outcome. -/
theorem witness_SequencerFollowsThePaths :
    (SequencerInv (turn (.transport (.openRsp false)) opening) ∧ opening.pstate = .opening ∧
      ∃ t, step (turn (.transport (.openRsp false)) opening) = .next t ∧ t.pstate = .idle) ∧
    (SequencerInv (turn (.transport (.sendRsp false)) sending) ∧ sending.pstate = .sending ∧
      ∃ t, step (turn (.transport (.sendRsp false)) sending) = .next t ∧ t.pstate = .releasing) ∧
    (SequencerInv (turn .engine (waiting 2001)) ∧ (waiting 2001).pstate = .sent ∧
      ∃ t, step (turn .engine (waiting 2001)) = .next t ∧ t.pstate = .releasing) ∧
    (SequencerInv (turn .engine (received datagram1)) ∧ (received datagram1).pstate = .received ∧
      ∃ t, step (turn .engine (received datagram1)) = .next t ∧ t.pstate = .releasing) ∧
    (SequencerInv (turn .engine { probing .releasing with handle := true, pres := .timedOut }) ∧
      ∃ t, step (turn .engine { probing .releasing with handle := true, pres := .timedOut }) = .next t ∧
        t.pstate = .idle) ∧
    nextEvent (turn .engine (waiting 2001)) ≠ .reset :=
  ⟨⟨turn_inv _ opening_inv, rfl, _, rfl, by decide⟩, ⟨turn_inv _ sending_inv, rfl, _, rfl, by decide⟩,
    ⟨turn_inv _ (waiting_inv _), rfl, _, rfl, by decide⟩,
    ⟨turn_inv _ received_inv, rfl, _, rfl, by decide +kernel⟩,
    ⟨turn_inv _ releasing_inv, _, rfl, by decide⟩, by decide⟩

theorem witness_OnlyAnswersOrResetEndTheWait :
    (SequencerInv (turn .tick opening) ∧ (∃ t, step (turn .tick opening) = .next t) ∧ opening.pstate = .opening ∧
      isAnswerOrReset (nextEvent (turn .tick opening)) = false) ∧
    (SequencerInv (turn .engine sending) ∧ (∃ t, step (turn .engine sending) = .next t) ∧
      sending.pstate = .sending ∧ isAnswerOrReset (nextEvent (turn .engine sending)) = false) :=
  ⟨⟨turn_inv _ opening_inv, ⟨_, rfl⟩, rfl, by decide⟩, ⟨turn_inv _ sending_inv, ⟨_, rfl⟩, rfl, by decide⟩⟩

theorem witness_OperandsFrozenWhileBusy :
    let s := turn (.host (.write 0x400#12 1#32)) (probing .sent)
    s.params.wf = true ∧ s.busy = true ∧ (∃ t, step s = .next t) ∧ nextEvent s ≠ .reset ∧
    0x400 ≤ 0x4FF ∧ 0x4FF < 0x400 + s.params.dbufBytes :=
  ⟨by decide, by decide, ⟨_, rfl⟩, by decide, by decide, by decide⟩

theorem witness_CommandFrame :
    (∃ t, exec .compose (running .compose [] 0) = .next t) ∧ (∃ t, exec .probe State.reset = .next t) ∧
    (∃ t, exec .probe (waiting 2001) = .next t) ∧ (running .compose [] 0).busy = true ∧ State.reset.busy = false :=
  ⟨⟨_, rfl⟩, ⟨_, rfl⟩, ⟨_, rfl⟩, rfl, rfl⟩

/-- The operands of `probing`, in an idle engine. -/
def ready : State :=
  { State.reset with target := 0xC0000201#32, ident := 0x04D2#16, seq := 0x0001#16, timeout := 2000#32 }

theorem witness_MatchingReplyEndsInSuccess :
    ready.params.wf = true ∧ ready.busy = false ∧ ready.fatal = false ∧ datagram1.length ≤ 65535 ∧
    2000 ≤ ready.timeout.toNat ∧
    classify datagram1 ready.target ready.ident ready.seq = .matched 0x04D2#16 0x0001#16 := by decide +kernel

theorem witness_NoReplyEndsInTimeout :
    ready.busy = false ∧ ready.fatal = false ∧ ready.timeout.toNat < 2001 ∧ 2001 < 2 ^ 64 := by decide

theorem witness_MemoryInvariantKept :
    let s := turn (.host (.write 0x4FC#12 1#32)) (storeBytes rxbufBase [0x45#8] State.reset)
    MemoryInv s ∧ ∃ t, step s = .next t ∧ t.mem.length = 5 :=
  ⟨⟨by decide, by decide, by decide⟩, _, rfl, by decide⟩

theorem witness_SequencerInvariantKept :
    SequencerInv (turn (.transport (.openRsp true)) opening) ∧
    ∃ t, step (turn (.transport (.openRsp true)) opening) = .next t :=
  ⟨turn_inv _ opening_inv, _, rfl⟩

theorem witness_ProbeInvariantKept :
    SequencerInv (turn .engine (received datagram1)) ∧ ProbeInv (turn .engine (received datagram1)) ∧
    ∃ t, step (turn .engine (received datagram1)) = .next t :=
  ⟨turn_inv _ received_inv, ⟨by decide, by decide, by decide, by decide, by decide, by decide⟩, _, rfl⟩

theorem witness_StepNeverStops : SequencerInv (turn .engine (waiting 2001)) := turn_inv _ (waiting_inv _)

end Sys2Proof.Tests
end

/-! SUPPORT. What the agents leave unchanged, and the statements of 10_state on TIME, OVR, FATAL and the reset values. -/

namespace Sys2Proof.Machine

/-! ### What ENGINE and TRANSPORT leave unchanged -/

/-- The part of the state that no executing command and no TRANSPORT message writes: CTRL.IE, STATUS.OVR, the operand
registers, TIME, CUROP, the parameters and the counters. -/
structure EngineReadOnly where
  ie : Bool
  ovr : Bool
  len : Half
  ident : Half
  seq : Half
  target : Word
  timeout : Word
  time : Tick
  curop : Byte
  params : Config.Params
  agenda : List Event
  draws : Nat
  epoch : Nat

/-- The engine's read-only part of a state. -/
def State.engineReadOnly (s : State) : EngineReadOnly where
  ie := s.ie
  ovr := s.ovr
  len := s.len
  ident := s.ident
  seq := s.seq
  target := s.target
  timeout := s.timeout
  time := s.time
  curop := s.curop
  params := s.params
  agenda := s.agenda
  draws := s.draws
  epoch := s.epoch

@[simp] theorem raise_engineReadOnly (e : CommandError) (s : State) :
    (raise e s).engineReadOnly = s.engineReadOnly := by
  cases e <;> rfl

theorem finishValue_keeps (r : Option (Half × Half)) (s : State) :
    (finishValue r s).engineReadOnly = s.engineReadOnly ∧ (finishValue r s).fatal = s.fatal := by
  cases r <;> exact ⟨rfl, rfl⟩

/-- All that COMPOSE can do (41_codec R144). -/
theorem composeStep_cases (s : State) :
    composeStep s = raise .protocolError s ∨
    ∃ M c, composeStep s = finish .none { storeBytes txbufBase M s with result := c } := by
  unfold composeStep
  split
  · exact .inl rfl
  · exact .inr ⟨_, _, rfl⟩

/-- All that an ENGINE step of PROBE can do (42_probe R176, R178, R179). -/
theorem probeStep_cases (s : State) :
    probeStep s = s ∨ (∃ r, probeStep s = decideOutcome r s) ∨ probeStep s = releaseProbe s := by
  unfold probeStep
  cases s.pstate with
  | idle | opening | sending => exact .inl rfl
  | sent =>
    cases expired s
    · exact .inl rfl
    · exact .inr (.inl ⟨_, rfl⟩)
  | received => exact .inr (.inl ⟨_, validateDatagram_eq s⟩)
  | releasing => exact .inr (.inr rfl)

theorem composeStep_keeps (s : State) :
    (composeStep s).engineReadOnly = s.engineReadOnly ∧ (composeStep s).fatal = s.fatal := by
  obtain h | ⟨M, c, h⟩ := composeStep_cases s <;> rw [h] <;> exact ⟨rfl, rfl⟩

theorem probeStep_keeps (s : State) :
    (probeStep s).engineReadOnly = s.engineReadOnly ∧ (probeStep s).fatal = s.fatal := by
  obtain h | ⟨r, h⟩ | h := probeStep_cases s <;> rw [h] <;> exact ⟨rfl, rfl⟩

/-- A step behind a length check raises InvalidLengthError or does what stands behind the check. -/
theorem lengthChecked_cases {c : Prop} [Decidable c] {n : Nat} {s t u : State}
    (h : t = if c then raise (.invalidLength n) s else u)
    (hu : u.engineReadOnly = s.engineReadOnly ∧ u.fatal = s.fatal) :
    (∃ n, t = raise (.invalidLength n) s) ∨ (t.engineReadOnly = s.engineReadOnly ∧ t.fatal = s.fatal) := by
  subst h
  split
  · exact .inl ⟨n, rfl⟩
  · exact .inr hu

/-- An executing command either raises InvalidLengthError or leaves FATAL and the engine's read-only part alone (R214, R215). -/
theorem executeStep_cases (i : Instr) (s : State) :
    (∃ n, executeStep i s = raise (.invalidLength n) s) ∨
    ((executeStep i s).engineReadOnly = s.engineReadOnly ∧ (executeStep i s).fatal = s.fatal) := by
  cases i with
  | foldsum => exact lengthChecked_cases (foldsumStep.eq_def s) ⟨rfl, rfl⟩
  | cksum => exact lengthChecked_cases (cksumStep.eq_def s) ⟨rfl, rfl⟩
  | compose => exact .inr (composeStep_keeps s)
  | parse => exact lengthChecked_cases (parseStep.eq_def s) (finishValue_keeps _ s)
  | validate => exact lengthChecked_cases (validateStep.eq_def s) (finishValue_keeps _ s)
  | probe => exact .inr (probeStep_keeps s)

@[simp] theorem executeStep_engineReadOnly (i : Instr) (s : State) :
    (executeStep i s).engineReadOnly = s.engineReadOnly := by
  obtain ⟨n, h⟩ | ⟨h, -⟩ := executeStep_cases i s
  · rw [h, raise_engineReadOnly]
  · exact h

/-- All that a successful OPEN can do (42_probe R172). -/
theorem openSucceeds_cases (s : State) :
    openSucceeds s = decideOutcome .protocolError { s with treq := .none, handle := true } ∨
    ∃ M, openSucceeds s =
      issue (.send s.target M)
        { storeBytes txbufBase M { s with treq := .none, handle := true } with treq := .send, pstate := .sending } := by
  unfold openSucceeds
  cases composeMsg s.ident s.seq with
  | none => exact .inl rfl
  | some r => exact .inr ⟨r.1, rfl⟩

/-- A TRANSPORT message leaves FATAL and the engine's read-only part alone. -/
theorem transportStep_keeps (m : TransportMsg) (s : State) :
    (transportStep m s).engineReadOnly = s.engineReadOnly ∧ (transportStep m s).fatal = s.fatal := by
  obtain h | ⟨-, -, -, h⟩ | ⟨-, -, -, h⟩ | ⟨ok, -, -, -, h⟩ | ⟨d, -, -, -, h⟩ | ⟨-, -, h⟩ := transportStep_cases m s <;>
    rw [h]
  · exact ⟨rfl, rfl⟩
  · obtain h | ⟨M, h⟩ := openSucceeds_cases s <;> rw [h] <;> exact ⟨rfl, rfl⟩
  · exact ⟨rfl, rfl⟩
  · cases ok <;> exact ⟨rfl, rfl⟩
  · unfold datagramArrives
    split <;> exact ⟨rfl, rfl⟩
  · unfold transportFaults
    split <;> exact ⟨rfl, rfl⟩

/-! ### What a WRITE leaves unchanged -/

theorem writeOperand_keeps (a : Nat) (v : Word) (s : State) :
    (writeOperand a v s).time = s.time ∧ (writeOperand a v s).ovr = s.ovr ∧ (writeOperand a v s).fatal = s.fatal := by
  obtain ⟨x, h⟩ | ⟨x, h⟩ | ⟨x, h⟩ | ⟨x, h⟩ | ⟨x, h⟩ | ⟨-, -, -, -, -, h⟩ := writeOperand_cases a v s <;>
    rw [h] <;> exact ⟨rfl, rfl, rfl⟩

/-- No WRITE changes TIME (10_state R36) or FATAL (10_state R29). -/
theorem hostWrite_keeps {addr : BitVec 12} {v : Word} {s t : State} (h : hostWrite addr v s = .next t) :
    t.time = s.time ∧ t.fatal = s.fatal := by
  obtain rfl | rfl | ⟨-, rfl⟩ | ⟨-, -, -, rfl⟩ | ⟨-, -, hp⟩ | ⟨-, -, -, -, rfl⟩ := hostWrite_next h
  case inr.inr.inr.inr.inl =>
    obtain ⟨-, rfl⟩ | ⟨-, rfl⟩ | ⟨-, rfl⟩ | ⟨-, i, -, rfl⟩ := hp <;> exact ⟨rfl, rfl⟩
  case inr.inr.inr.inr.inr =>
    obtain ⟨htime, -, hfatal⟩ := writeOperand_keeps addr.toNat v s
    exact ⟨htime, hfatal⟩
  all_goals exact ⟨rfl, rfl⟩

/-- What a WRITE can do to OVR: leave it, clear it through STATUS (10_state R24), or set it because it is ignored
(20_memory R65). -/
theorem hostWrite_ovr {addr : BitVec 12} {v : Word} {s t : State} (h : hostWrite addr v s = .next t) :
    t.ovr = s.ovr ∨
    (addr = 0x008#12 ∧ v.getLsbD 3 = true ∧ t.ovr = false) ∨
    (s.busy = true ∧ frozenWhileBusy s addr.toNat = true ∧ addr.toNat % 4 = 0 ∧ t.ovr = true) := by
  obtain rfl | rfl | ⟨ha, rfl⟩ | ⟨hb, hf, h4, rfl⟩ | ⟨-, -, hp⟩ | ⟨-, -, -, -, rfl⟩ := hostWrite_next h
  · exact .inl rfl
  · exact .inl rfl
  · cases hv : v.getLsbD 3
    · exact .inl (by rw [acknowledge_ovr, hv]; rfl)
    · exact .inr (.inl ⟨BitVec.eq_of_toNat_eq ha, rfl, by rw [acknowledge_ovr, hv]; rfl⟩)
  · exact .inr (.inr ⟨hb, hf, h4, rfl⟩)
  · obtain ⟨-, rfl⟩ | ⟨-, rfl⟩ | ⟨-, rfl⟩ | ⟨-, i, -, rfl⟩ := hp <;> exact .inl rfl
  · obtain ⟨-, hovr, -⟩ := writeOperand_keeps addr.toNat v s
    exact .inl hovr

/-- While BUSY = 1 an aligned WRITE to a frozen address is ignored and sets OVR (20_memory R65). -/
theorem hostWrite_frozen {addr : BitVec 12} (v : Word) {s : State} (hb : s.busy = true) (h4 : addr.toNat % 4 = 0)
    (hf : frozenWhileBusy s addr.toNat = true) : hostWrite addr v s = .next { s with ovr := true } := by
  have hctrl : addr.toNat ≠ 0x000 ∧ addr.toNat ≠ 0x008 := by
    rw [frozenWhileBusy_iff] at hf
    omega
  simp [hostWrite, hb, h4, hf, hctrl]

/-- A halted idle engine rejects every word with HALTED (60_exceptions R212, R216 (1)). -/
theorem presentWord_halted (w : Word) (s : State) (hf : s.fatal = true) (hb : s.busy = false) :
    presentWord w s = .next (reject .halted s) := by
  obtain ⟨i, -, h⟩ | ⟨e, -, h⟩ := presentWord_idle w s hb
  · rw [h, exec_idle i s hb, if_pos hf]
  · rw [h, if_pos hf]

/-! ### What a step does to TIME, OVR and FATAL -/

/-- TIME moves by a tick and by reset alone (10_state R36). -/
theorem step_time {s t : State} (h : step s = .next t) :
    t.time = if nextEvent s = .tick then s.time + 1#64 else if nextEvent s = .reset then 0#64 else s.time := by
  obtain ⟨a, he, rfl⟩ | ⟨a, v, he, hw⟩ | ⟨he, ⟨-, rfl⟩ | ⟨-, -, i, -, rfl⟩⟩ | ⟨m, he, rfl⟩ | ⟨he, rfl⟩ | ⟨he, rfl⟩ :=
    step_next h <;> rw [he]
  · rfl
  · exact (hostWrite_keeps hw).1
  · rfl
  · exact congrArg EngineReadOnly.time (executeStep_engineReadOnly i (beginStep s))
  · exact congrArg EngineReadOnly.time (transportStep_keeps m (beginStep s)).1
  · rfl
  · rfl

/-- All that a step can do to OVR (10_state R28). -/
theorem step_ovr {s t : State} (h : step s = .next t) :
    t.ovr = s.ovr ∨
    (nextEvent s = .reset ∧ t.ovr = false) ∨
    (∃ v, nextEvent s = .host (.write 0x008#12 v) ∧ v.getLsbD 3 = true ∧ t.ovr = false) ∨
    (∃ addr v, nextEvent s = .host (.write addr v) ∧ s.busy = true ∧ addr.toNat % 4 = 0 ∧
      frozenWhileBusy s addr.toNat = true ∧ t.ovr = true) := by
  obtain ⟨a, -, rfl⟩ | ⟨a, v, he, hw⟩ | ⟨-, ⟨-, rfl⟩ | ⟨-, -, i, -, rfl⟩⟩ | ⟨m, -, rfl⟩ | ⟨-, rfl⟩ | ⟨he, rfl⟩ :=
    step_next h
  · exact .inl rfl
  · obtain ho | ⟨rfl, hv, ho⟩ | ⟨hb, hf, h4, ho⟩ := hostWrite_ovr hw
    · exact .inl ho
    · exact .inr (.inr (.inl ⟨v, he, hv, ho⟩))
    · exact .inr (.inr (.inr ⟨a, v, he, hb, h4, hf, ho⟩))
  · exact .inl rfl
  · exact .inl (congrArg EngineReadOnly.ovr (executeStep_engineReadOnly i (beginStep s)))
  · exact .inl (congrArg EngineReadOnly.ovr (transportStep_keeps m (beginStep s)).1)
  · exact .inl rfl
  · exact .inr (.inl ⟨he, rfl⟩)

/-- All that a step can do to FATAL (10_state R29). -/
theorem step_fatal {s t : State} (h : step s = .next t) :
    t.fatal = s.fatal ∨
    (nextEvent s = .reset ∧ t.fatal = false) ∨
    (nextEvent s = .engine ∧ s.busy = true ∧ ∃ n, t = raise (.invalidLength n) (beginStep s)) := by
  obtain ⟨a, -, rfl⟩ | ⟨a, v, -, hw⟩ | ⟨he, ⟨-, rfl⟩ | ⟨hb, -, i, -, rfl⟩⟩ | ⟨m, -, rfl⟩ | ⟨-, rfl⟩ | ⟨he, rfl⟩ :=
    step_next h
  · exact .inl rfl
  · exact .inl (hostWrite_keeps hw).2
  · exact .inl rfl
  · obtain hraise | ⟨-, hkeeps⟩ := executeStep_cases i (beginStep s)
    · exact .inr (.inr ⟨he, hb, hraise⟩)
    · exact .inl hkeeps
  · exact .inl (transportStep_keeps m (beginStep s)).2
  · exact .inl rfl
  · exact .inr (.inl ⟨he, rfl⟩)

/-! ### The reset values (10_state R52) -/

theorem registerWord_reset (a : Nat) : registerWord State.reset a = 0#32 := by
  unfold registerWord
  iterate 14 refine ite_eq_iff'.2 ⟨fun _ => rfl, fun _ => ?_⟩
  rfl

theorem hostRead_reset_register (addr : BitVec 12) (h : addr.toNat < 0x40) (h4 : addr.toNat % 4 = 0) :
    hostRead State.reset addr = 0#32 := by
  rw [hostRead_register _ _ h h4, registerWord_reset]

/-! ### The statements -/

/-- Settles O17: the agents' frames leave TIME to the tick and to reset. -/
theorem timeMovesByTicksAndReset : Obligations.TimeMovesByTicksAndReset := by
  unfold Obligations.TimeMovesByTicksAndReset
  refine ⟨fun s => rfl, fun s t h => ⟨fun he => ?_, fun he => ?_, fun htick hreset => ?_⟩, fun s => ⟨?_, ?_⟩⟩
  · rw [step_time h, if_pos he]
  · rw [step_time h, he]
    rfl
  · rw [step_time h, if_neg htick, if_neg hreset]
  · rw [hostRead_register s _ (by decide) (by decide)]
    rfl
  · rw [hostRead_register s _ (by decide) (by decide)]
    rfl

/-- Settles O18, from all that a step can do to OVR and from what an ignored WRITE answers. -/
theorem overrunIsSetByIgnoredWritesOnly : Obligations.OverrunIsSetByIgnoredWritesOnly := by
  unfold Obligations.OverrunIsSetByIgnoredWritesOnly
  intro s t h
  refine ⟨fun h0 h1 => ?_, fun addr v hb he h4 ha => ?_, fun h1 h0 => ?_⟩
  · obtain ho | ⟨-, ho⟩ | ⟨v, -, -, ho⟩ | ⟨addr, v, he, hb, h4, hf, -⟩ := step_ovr h
    · simp [h0, h1] at ho
    · simp [h1] at ho
    · simp [h1] at ho
    · exact ⟨hb, addr, v, he, h4, by simpa only [or_assoc] using (frozenWhileBusy_iff s addr.toNat).1 hf⟩
  · have hf : frozenWhileBusy s addr.toNat = true :=
      (frozenWhileBusy_iff s addr.toNat).2 (by simpa only [or_assoc] using ha)
    have hw : hostWrite addr v (beginStep s) = .next { beginStep s with ovr := true } := hostWrite_frozen v hb h4 hf
    rw [step_eq, he] at h
    obtain rfl : { beginStep s with ovr := true } = t := Host.Outcome.next.inj (hw.symm.trans h)
    rfl
  · obtain ho | ⟨he, -⟩ | ⟨v, he, hv, -⟩ | ⟨addr, v, -, -, -, -, ho⟩ := step_ovr h
    · simp [h0, h1] at ho
    · exact .inl he
    · exact .inr ⟨v, he, hv⟩
    · simp [h0] at ho

/-- Settles O19, from all that a step can do to FATAL: only an ENGINE step that raises InvalidLengthError sets it. -/
theorem fatalIsStickyUntilReset : Obligations.FatalIsStickyUntilReset := by
  unfold Obligations.FatalIsStickyUntilReset
  refine ⟨fun s t h => ⟨fun h1 h0 => ?_, fun h0 h1 => ?_⟩, fun s n => rfl, fun s w hf hb => presentWord_halted w s hf hb⟩
  · obtain hk | ⟨he, -⟩ | ⟨-, -, n, rfl⟩ := step_fatal h
    · simp [h0, h1] at hk
    · exact he
    · cases h0
  · obtain hk | ⟨-, hk⟩ | ⟨he, hb, n, rfl⟩ := step_fatal h
    · simp [h0, h1] at hk
    · simp [h1] at hk
    · exact ⟨he, hb, rfl, rfl, rfl, rfl⟩

/-- Settles O55: at reset every register address reads 0. -/
theorem resetRegisterValues : Obligations.ResetRegisterValues := by
  unfold Obligations.ResetRegisterValues
  refine ⟨?_, ?_, ?_, ?_, ?_, ?_, ?_, ?_, ?_, ?_, ?_, ?_, rfl, rfl, rfl, rfl, rfl, rfl⟩ <;>
    exact hostRead_reset_register _ (by decide) (by decide)

end Sys2Proof.Machine

/-! SUPPORT. What the host port's map answers, address by address, and the statements of 20_memory on the busy rule, the byte
order and the addresses that are reserved or misaligned. -/

namespace Sys2Proof.Machine

/-! ### The windows (20_memory R62) -/

theorem inBuffer_iff (s : State) (a : Nat) :
    inBuffer s a = true ↔
      0x400 ≤ a ∧ a < 0x400 + s.params.dbufBytes ∨ 0x040 ≤ a ∧ a < 0x048 ∨
        0x800 ≤ a ∧ a < 0x800 + s.params.rxbufBytes := by
  unfold inBuffer
  rw [Bool.or_eq_true, Bool.or_eq_true, inDbuf_iff, inTxbuf_iff, inRxbuf_iff, or_assoc]

/-! ### What a READ answers (20_memory R62, R66, R67) -/

theorem hostRead_misaligned (s : State) {addr : BitVec 12} (h4 : addr.toNat % 4 ≠ 0) : hostRead s addr = 0#32 := by
  simp [hostRead, h4]

/-- An aligned READ shows the buffer word inside a window and the register outside. -/
theorem hostRead_aligned (s : State) {addr : BitVec 12} (h4 : addr.toNat % 4 = 0) :
    hostRead s addr = if inBuffer s addr.toNat then bufferWord s addr.toNat else registerWord s addr.toNat := by
  have hwin : (inDbuf s addr.toNat || inRxbuf s addr.toNat || inTxbuf addr.toNat) = inBuffer s addr.toNat :=
    Bool.or_right_comm _ _ _
  simp only [hostRead, h4, hwin, ne_eq, not_true, if_false]

theorem hostRead_buffer {s : State} {addr : BitVec 12} (h4 : addr.toNat % 4 = 0) (hin : inBuffer s addr.toNat = true) :
    hostRead s addr = bufferWord s addr.toNat := by
  rw [hostRead_aligned s h4, if_pos hin]

/-- Outside the windows, an address that no register has reads 0. -/
theorem hostRead_unmapped {s : State} {addr : BitVec 12} (hout : ¬ inBuffer s addr.toNat = true)
    (hreg : addr.toNat = 0x4 ∨ addr.toNat = 0x3C ∨ 0x40 ≤ addr.toNat) : hostRead s addr = 0#32 := by
  by_cases h4 : addr.toNat % 4 = 0
  · rw [hostRead_aligned s h4, if_neg hout, registerWord_none s _ hreg]
  · exact hostRead_misaligned s h4

/-! ### What a WRITE does (20_memory R63) -/

/-- CTRL is written in every state (10_state R23). -/
theorem hostWrite_ctrl (v : Word) (s : State) : hostWrite 0x000#12 v s = .next { s with ie := v.getLsbD 0 } := rfl

/-- STATUS is written in every state, as an acknowledgement (60_exceptions R218). -/
theorem hostWrite_status (v : Word) (s : State) : hostWrite 0x008#12 v s = .next (acknowledge v s) := rfl

/-- A WRITE to an address that no writable register and no DBUF word has is ignored, and so is a misaligned one. -/
theorem hostWrite_ignored {addr : BitVec 12} (v : Word) {s : State}
    (h : addr.toNat % 4 ≠ 0 ∨
      addr.toNat ≠ 0x000 ∧ addr.toNat ≠ 0x008 ∧ ¬ frozenWhileBusy s addr.toNat = true) :
    hostWrite addr v s = .next s := by
  unfold hostWrite
  obtain h4 | ⟨hctrl, hstatus, hfrozen⟩ := h
  · exact if_pos h4
  · simp [hctrl, hstatus, hfrozen]

/-- A WRITE to an idle engine's DBUF stores the word's four bytes. -/
theorem hostWrite_dbuf {addr : BitVec 12} (v : Word) {s : State} (hb : s.busy = false) (h4 : addr.toNat % 4 = 0)
    (hd : inDbuf s addr.toNat = true) :
    hostWrite addr v s = .next (storeBytes addr.toNat (wordBytes v) s) := by
  obtain ⟨hlow, hhigh⟩ := (inDbuf_iff s addr.toNat).1 hd
  have hfrozen : frozenWhileBusy s addr.toNat = true := (frozenWhileBusy_iff s addr.toNat).2 (.inr ⟨hlow, hhigh⟩)
  have hregs : addr.toNat ≠ 0x000 ∧ addr.toNat ≠ 0x004 ∧ addr.toNat ≠ 0x008 ∧ addr.toNat ≠ 0x00C ∧
      addr.toNat ≠ 0x010 ∧ addr.toNat ≠ 0x014 ∧ addr.toNat ≠ 0x018 ∧ addr.toNat ≠ 0x01C := by omega
  simp [hostWrite, writeOperand, hb, h4, hfrozen, hregs]

/-! ### A stored word read back (20_memory R64) -/

/-- The four bytes of a word put together again are the word. -/
theorem word4_wordBytes (v : Word) :
    word4 (v.extractLsb' 24 8) (v.extractLsb' 16 8) (v.extractLsb' 8 8) (v.extractLsb' 0 8) = v := by
  unfold word4
  ext i hi
  simp only [BitVec.cast_eq, ← BitVec.getLsbD_eq_getElem, BitVec.getLsbD_append, BitVec.getLsbD_extractLsb']
  interval_cases i <;> rfl

/-- Byte `k` of a stored word is byte `k` of `wordBytes`. -/
theorem readByte_storeWord (a : Nat) (v : Word) (s : State) {k : Nat} (hk : k < 4) :
    readByte (storeBytes a (wordBytes v) s) (a + k) = (wordBytes v).getD k 0#8 := by
  have hin : a ≤ a + k ∧ a + k < a + (wordBytes v).length := ⟨Nat.le_add_right a k, Nat.add_lt_add_left hk a⟩
  rw [readByte_storeBytes, if_pos hin, Nat.add_sub_cancel_left]

/-- A stored word leaves every other byte. -/
theorem readByte_storeWord_of_outside {a x : Nat} (v : Word) (s : State) (h : x < a ∨ a + 4 ≤ x) :
    readByte (storeBytes a (wordBytes v) s) x = readByte s x := by
  have hout : ¬ (a ≤ x ∧ x < a + (wordBytes v).length) := by
    rw [show (wordBytes v).length = 4 from rfl]
    omega
  rw [readByte_storeBytes, if_neg hout]

theorem bufferWord_storeWord (a : Nat) (v : Word) (s : State) : bufferWord (storeBytes a (wordBytes v) s) a = v :=
  calc bufferWord (storeBytes a (wordBytes v) s) a
    _ = word4 (v.extractLsb' 24 8) (v.extractLsb' 16 8) (v.extractLsb' 8 8) (v.extractLsb' 0 8) := by
      unfold bufferWord
      rw [readByte_storeWord a v s (k := 1) (by decide), readByte_storeWord a v s (k := 2) (by decide),
        readByte_storeWord a v s (k := 3) (by decide)]
      exact congrArg (word4 · _ _ _) (readByte_storeWord a v s (k := 0) (by decide))
    _ = v := word4_wordBytes v

/-! ### The statements -/

/-- Settles O8: each named address is aligned and frozen, and CTRL and STATUS are decided before the busy rule. -/
theorem frozenWritesWhileBusySetOvrOnly : Obligations.FrozenWritesWhileBusySetOvrOnly := by
  unfold Obligations.FrozenWritesWhileBusySetOvrOnly
  intro s v hb
  refine ⟨fun addr ha => ?_, hostWrite_ctrl v s, ?_⟩
  · obtain ⟨h4, hf⟩ : addr.toNat % 4 = 0 ∧ frozenWhileBusy s addr.toNat = true := by
      rw [frozenWhileBusy_iff]
      obtain rfl | rfl | rfl | rfl | rfl | rfl | ⟨h4, hd⟩ := ha
      case inr.inr.inr.inr.inr.inr => exact ⟨h4, .inr hd⟩
      all_goals exact ⟨rfl, .inl (by decide)⟩
    exact hostWrite_frozen v hb h4 hf
  · rw [hostWrite_status, acknowledge_eq]

/-- Settles O11: a READ shows `bufferWord`, and a DBUF WRITE is a store of `wordBytes`, whose bytes read back in order. -/
theorem bufferWordsAreBigEndian : Obligations.BufferWordsAreBigEndian := by
  unfold Obligations.BufferWordsAreBigEndian
  intro s addr _ h4
  refine ⟨fun hin => ?_, fun v hb hlow hhigh => ?_⟩
  · rw [hostRead_buffer h4 ((inBuffer_iff s addr.toNat).2 hin)]
    rfl
  · have hd : inDbuf s addr.toNat = true := (inDbuf_iff s addr.toNat).2 ⟨hlow, hhigh⟩
    have hin : inBuffer (storeBytes addr.toNat (wordBytes v) s) addr.toNat = true :=
      (inBuffer_iff _ _).2 (.inl ⟨hlow, hhigh⟩)
    refine ⟨storeBytes addr.toNat (wordBytes v) s, hostWrite_dbuf v hb h4 hd, ?_,
      readByte_storeWord _ v s (k := 0) (by decide), readByte_storeWord _ v s (k := 1) (by decide),
      readByte_storeWord _ v s (k := 2) (by decide), readByte_storeWord _ v s (k := 3) (by decide),
      fun b h => readByte_storeWord_of_outside v s h, rfl⟩
    rw [hostRead_buffer h4 hin, bufferWord_storeWord]

/-- Settles O12: legal capacities keep the reserved ranges apart from the windows, and no register lies in them. -/
theorem reservedAndMisalignedAccess : Obligations.ReservedAndMisalignedAccess := by
  unfold Obligations.ReservedAndMisalignedAccess
  intro s addr hwf h
  obtain ⟨⟨-, -, hdbuf⟩, ⟨-, -, hrxbuf⟩, -⟩ := params_wf hwf
  obtain h4 | hres := h
  · exact ⟨hostRead_misaligned s h4, fun v => hostWrite_ignored v (.inl h4)⟩
  · have hout : ¬ inBuffer s addr.toNat = true := by
      rw [inBuffer_iff]
      omega
    have hfree : ¬ frozenWhileBusy s addr.toNat = true := by
      rw [frozenWhileBusy_iff]
      omega
    exact ⟨hostRead_unmapped hout (by omega), fun v => hostWrite_ignored v (.inr ⟨by omega, by omega, hfree⟩)⟩

end Sys2Proof.Machine

/-! SUPPORT. A command word and its two fields (30_encoding R90), the decoder read on the fields, and the statement of
30_encoding R91 that decoding and encoding undo each other. -/

namespace Sys2Proof

/-! ### A word is its two fields (30_encoding R90) -/

/-- OP is the low byte and RSVD the rest, so the two fields put together again are the word. -/
theorem rsvdField_append_opField (w : Word) : (rsvdField w ++ opField w).cast rfl = w := by
  unfold rsvdField opField
  rw [BitVec.cast_eq, BitVec.extractLsb'_append_extractLsb'_eq_extractLsb' (by decide)]
  exact BitVec.extractLsb'_eq_self

@[simp] theorem rsvdField_encode (i : Instr) : rsvdField (encode i) = 0#24 := by cases i <;> rfl

@[simp] theorem opField_encode (i : Instr) : opField (encode i) = opcode i := by cases i <;> rfl

/-- The word of a command is the one word with RSVD 0 and the command's opcode in OP. -/
theorem eq_encode_iff (w : Word) (i : Instr) : w = encode i ↔ rsvdField w = 0#24 ∧ opField w = opcode i := by
  constructor
  · rintro rfl
    exact ⟨rsvdField_encode i, opField_encode i⟩
  · rintro ⟨hrsvd, hop⟩
    calc w
      _ = (rsvdField w ++ opField w).cast rfl := (rsvdField_append_opField w).symm
      _ = encode i := by rw [hrsvd, hop, encode]

/-! ### The decoder on the fields (30_encoding R91, R92) -/

@[simp] theorem decodeOp_opcode (i : Instr) : decodeOp (opcode i) = some i := by cases i <;> rfl

/-- The opcode map names a command on that command's own opcode and on no other byte. -/
theorem decodeOp_eq_some_iff (op : Byte) (i : Instr) : decodeOp op = some i ↔ op = opcode i := by
  constructor
  · intro h
    unfold decodeOp at h
    split_ifs at h with hop hop hop hop hop hop <;> cases h <;> exact hop
  · rintro rfl
    exact decodeOp_opcode i

theorem decode_eq_ok_iff (w : Word) (i : Instr) :
    decode w = .ok i ↔ rsvdField w = 0#24 ∧ decodeOp (opField w) = some i := by
  unfold decode
  by_cases hrsvd : rsvdField w = 0#24
  · cases hop : decodeOp (opField w) <;> simp [hrsvd]
  · simp [hrsvd]

/-! ### The statement -/

/-- Settles O1: the decoder accepts a word by its two fields, and these are the fields of the command's own word. -/
theorem sixWordsDecodeAndNoOther : Obligations.SixWordsDecodeAndNoOther := by
  unfold Obligations.SixWordsDecodeAndNoOther
  refine ⟨fun w i => ?_, rfl, rfl, rfl, rfl, rfl, rfl⟩
  rw [decode_eq_ok_iff, decodeOp_eq_some_iff, eq_encode_iff]

end Sys2Proof

/-! SUPPORT. The range of the folded sum, the checksum as a number, the length check that FOLDSUM and CKSUM share, and the
statements of 40_checksum on the checksum and on these two commands. -/

namespace Sys2Proof.Machine

/-! ### The folded sum fits 16 bits (40_checksum R122) -/

/-- A turn of the loop lowers S, so fuel S is enough to end below 0x10000. -/
theorem foldLoop_lt {fuel S : Nat} (h : S ≤ fuel) : foldLoop fuel S < 0x10000 := by
  induction fuel generalizing S with
  | zero =>
    rw [foldLoop]
    omega
  | succ fuel ih =>
    rw [foldLoop]
    split
    · exact ih (by omega)
    · omega

theorem fold_lt (S : Nat) : fold S < 0x10000 := foldLoop_lt le_rfl

theorem foldedSum_lt (B : List Byte) : foldedSum B < 0x10000 := fold_lt (wordSum B)

/-! ### The checksum (40_checksum R121) -/

/-- The complement of a 16-bit number, taken on 32 bits and masked, is 0xFFFF less the number. -/
theorem toNat_not_and_mask {n : Nat} (h : n < 0x10000) : (~~~(BitVec.ofNat 32 n) &&& 0xFFFF#32).toNat = 0xFFFF - n := by
  have hmask : (0xFFFF#32).toNat = 2 ^ 16 - 1 := rfl
  rw [BitVec.toNat_and, hmask, Nat.and_two_pow_sub_one_eq_mod, BitVec.toNat_not, BitVec.toNat_ofNat]
  omega

theorem checksum_toNat (B : List Byte) : (checksum B).toNat = 0xFFFF - foldedSum B := by
  rw [checksum, BitVec.toNat_setWidth, toNat_not_and_mask (foldedSum_lt B)]
  omega

/-- `zext_32` of a 16-bit value (00_scope R11) is the value under a zero half. -/
theorem setWidth_eq_zero_append (h : Half) : h.setWidth 32 = 0#16 ++ h :=
  BitVec.setWidth_eq_append (by decide)

theorem zext_checksum (B : List Byte) :
    0#16 ++ checksum B = ~~~(BitVec.ofNat 32 (foldedSum B)) &&& 0xFFFF#32 := by
  apply BitVec.eq_of_toNat_eq
  rw [← setWidth_eq_zero_append, BitVec.toNat_setWidth_of_le (by decide), checksum_toNat,
    toNat_not_and_mask (foldedSum_lt B)]

/-! ### The length check of FOLDSUM and CKSUM (60_exceptions R211) -/

theorem badSumLength_iff (s : State) :
    badSumLength (lenOperand s) s = true ↔ s.params.dbufBytes < s.len.toNat ∨ s.len.toNat % 2 = 1 := by
  rw [badSumLength, lenOperand, Bool.or_eq_true, decide_eq_true_iff, decide_eq_true_iff]

/-- An even length within DBUF passes the check. -/
theorem not_badSumLength {s : State} (hcap : s.len.toNat ≤ s.params.dbufBytes) (heven : s.len.toNat % 2 = 0) :
    ¬ badSumLength (lenOperand s) s = true := by
  rw [badSumLength_iff]
  omega

/-! ### The commands' own words (30_encoding R91) -/

/-- Every command's own word decodes to it. -/
theorem decode_encode (i : Instr) : decode (encode i) = .ok i :=
  (decode_eq_ok_iff _ i).2 ⟨rsvdField_encode i, by rw [opField_encode, decodeOp_opcode]⟩

/-! ### The statements -/

/-- Settles O23: the masked complement is 0xFFFF less the folded sum, because the folded sum fits 16 bits. -/
theorem checksumComplementsFoldedSum : Obligations.ChecksumComplementsFoldedSum := by
  unfold Obligations.ChecksumComplementsFoldedSum
  intro B
  refine ⟨zext_checksum B, checksum_toNat B, ?_⟩
  have hfold := foldedSum_lt B
  rw [checksum_toNat]
  omega

/-- Settles O20: the length check decides between the result and InvalidLengthError. -/
theorem foldsumWritesFoldedSum : Obligations.FoldsumWritesFoldedSum := by
  unfold Obligations.FoldsumWritesFoldedSum
  refine ⟨decode_encode .foldsum, fun s hb => ⟨fun hcap heven => ?_, fun hbad => ?_⟩⟩
  · rw [exec_busy_foldsum s hb, foldsumStep, if_neg (not_badSumLength hcap heven)]
    rfl
  · rw [exec_busy_foldsum s hb, foldsumStep, if_pos ((badSumLength_iff s).2 hbad)]
    rfl

/-- Settles O21: as FOLDSUM, with the checksum extended by a zero half. -/
theorem cksumWritesChecksum : Obligations.CksumWritesChecksum := by
  unfold Obligations.CksumWritesChecksum
  refine ⟨decode_encode .cksum, fun s hb => ⟨fun hcap heven => ?_, fun hbad => ?_⟩⟩
  · rw [exec_busy_cksum s hb, cksumStep, if_neg (not_badSumLength hcap heven), setWidth_eq_zero_append]
    rfl
  · rw [exec_busy_cksum s hb, cksumStep, if_pos ((badSumLength_iff s).2 hbad)]
    rfl

end Sys2Proof.Machine

/-! SUPPORT. When parseMsg answers a value, the completions of PARSE and VALIDATE, and the statements of 41_codec on
parseMsg and PARSE. -/

namespace Sys2Proof.Machine

/-! ### A big-endian field (00_scope R11) -/

theorem eq_be16_iff (h : Half) (a b : Byte) : h = be16 a b ↔ h.toNat = a.toNat * 256 + b.toNat := by
  rw [← BitVec.toNat_inj, be16_toNat]

/-! ### When parseMsg answers a value (41_codec R141) -/

theorem parseMsg_bytes (t c k1 k0 i1 i0 s1 s0 : Byte) :
    parseMsg [t, c, k1, k0, i1, i0, s1, s0] =
      if foldedSum [t, c, k1, k0, i1, i0, s1, s0] = 0xFFFF ∧ t = typeReply ∧ c = 0#8 then
        some (be16 i1 i0, be16 s1 s0)
      else none := rfl

theorem parseMsg_bytes_eq_some_iff (t c k1 k0 i1 i0 s1 s0 : Byte) (id seq : Half) :
    parseMsg [t, c, k1, k0, i1, i0, s1, s0] = some (id, seq) ↔
      foldedSum [t, c, k1, k0, i1, i0, s1, s0] = 0xFFFF ∧ t = typeReply ∧ c = 0#8 ∧
        id = be16 i1 i0 ∧ seq = be16 s1 s0 := by
  have hfields : some (be16 i1 i0, be16 s1 s0) = some (id, seq) ↔ id = be16 i1 i0 ∧ seq = be16 s1 s0 := by
    rw [Option.some_inj, Prod.mk_inj]
    exact and_congr eq_comm eq_comm
  rw [parseMsg_bytes, Option.ite_none_right_eq_some, hfields, and_assoc, and_assoc]

/-- On 8 bytes: the three tests of R141 pass, and the value is the two big-endian fields. -/
theorem parseMsg_eq_some_iff {B : List Byte} (hB : B.length = 8) (id seq : Half) :
    parseMsg B = some (id, seq) ↔
      foldedSum B = 0xFFFF ∧ B.getD 0 0#8 = typeReply ∧ B.getD 1 0#8 = 0#8 ∧
        id = be16 (B.getD 4 0#8) (B.getD 5 0#8) ∧ seq = be16 (B.getD 6 0#8) (B.getD 7 0#8) :=
  match B, hB with
  | [t, c, k1, k0, i1, i0, s1, s0], _ => parseMsg_bytes_eq_some_iff t c k1 k0 i1 i0 s1 s0 id seq

/-! ### The completion with a value or with none (41_codec R146, 42_probe R165) -/

theorem finishValue_some (id seq : Half) (s : State) :
    finishValue (some (id, seq)) s =
      { s with result := id ++ seq, rv := true, err := .none, busy := false, done := true } := rfl

theorem finishValue_none (s : State) :
    finishValue none s = { s with result := 0#32, rv := false, err := .none, busy := false, done := true } := rfl

/-! ### The ENGINE execute step of PARSE (41_codec R146) -/

theorem parseStep_of_len_eq {s : State} (hlen : s.len.toNat = 8) :
    parseStep s = finishValue (parseMsg ((List.range 8).map fun k => readByte s (0x400 + k))) s :=
  if_neg (not_not.2 hlen)

theorem parseStep_of_len_ne {s : State} (hlen : s.len.toNat ≠ 8) :
    parseStep s = { s with fatal := true, err := .invalidLength, busy := false, done := true } :=
  if_pos hlen

/-! ### The statements -/

/-- Settles O31: parseMsg's tests and fields, each field read as a number. -/
theorem parseAcceptsExactlyWellFormedReplies : Obligations.ParseAcceptsExactlyWellFormedReplies := by
  unfold Obligations.ParseAcceptsExactlyWellFormedReplies
  intro B id seq hB
  rw [parseMsg_eq_some_iff hB, eq_be16_iff, eq_be16_iff]

/-- Settles O30: the length check decides for InvalidLengthError, and behind it parseMsg decides RESULT and RV. -/
theorem parseWritesTheValue : Obligations.ParseWritesTheValue := by
  unfold Obligations.ParseWritesTheValue
  refine ⟨decode_encode .parse, fun s hb => ?_⟩
  rw [exec_busy_parse s hb]
  refine ⟨fun hlen => ⟨fun id seq hvalue => ?_, fun hnone => ?_⟩, fun hlen => ?_⟩
  · rw [parseStep_of_len_eq hlen, hvalue, finishValue_some]
  · rw [parseStep_of_len_eq hlen, hnone, finishValue_none]
  · rw [parseStep_of_len_ne hlen]

end Sys2Proof.Machine

/-! SUPPORT. The reply validator as a list of conditions, what VALIDATE, each TRANSPORT message and the release do to the
state, and the statements of 42_probe on them. -/

namespace Sys2Proof.Machine

/-! ### The header fields (30_encoding R102) -/

theorem sourceAddress_eq (D : List Byte) :
    sourceAddress D = D.getD 12 0#8 ++ D.getD 13 0#8 ++ D.getD 14 0#8 ++ D.getD 15 0#8 := rfl

/-- IHL is the low half of byte 0, counted in words of four bytes. -/
theorem headerLength_eq (D : List Byte) : headerLength D = (D.getD 0 0#8).toNat % 16 * 4 := by
  rw [headerLength, BitVec.extractLsb'_toNat, Nat.shiftRight_zero, byteAt]

/-- The version is the high half of byte 0. -/
theorem ipVersion_toNat (D : List Byte) : (ipVersion D).toNat = (D.getD 0 0#8).toNat / 16 := by
  have hbyte := (D.getD 0 0#8).isLt
  rw [ipVersion, BitVec.extractLsb'_toNat, Nat.shiftRight_eq_div_pow, byteAt]
  omega

theorem ipVersion_eq_four_iff (D : List Byte) : ipVersion D = 4#4 ↔ (D.getD 0 0#8).toNat / 16 = 4 := by
  rw [← BitVec.toNat_inj, ipVersion_toNat]
  rfl

/-! ### When the validator matches (42_probe R160) -/

/-- A check of the validator: a failing one answers WRONG, so a match has passed it. -/
theorem ite_wrong_eq_matched_iff {c : Prop} [Decidable c] {v : Verdict} {id seq : Half} :
    (if c then .wrong else v) = Verdict.matched id seq ↔ ¬ c ∧ v = .matched id seq := by
  by_cases hc : c <;> simp [hc]

/-- Step (h): a parsed reply matches when it carries the wanted identifier and sequence. -/
theorem wanted_eq_matched_iff {id seq i q id' seq' : Half} :
    (if i ≠ id ∨ q ≠ seq then .wrong else Verdict.matched i q) = .matched id' seq' ↔
      (i = id' ∧ q = seq') ∧ id' = id ∧ seq' = seq := by
  rw [ite_wrong_eq_matched_iff, Verdict.matched.injEq, not_or, not_not, not_not, and_comm]
  exact and_congr_right fun ⟨hi, hq⟩ => by rw [hi, hq]

/-- A match has passed every one of the steps (a) to (h). -/
theorem classifyLen_eq_matched_iff (D : List Byte) (L : Nat) (target : Word) (id seq id' seq' : Half) :
    classifyLen D L target id seq = .matched id' seq' ↔
      20 ≤ L ∧ sourceAddress D = target ∧ ipVersion D = 4#4 ∧ byteAt D 9 = Config.icmpProto ∧
        L - headerLength D = 8 ∧ parseMsg (D.drop (headerLength D)) = some (id', seq') ∧ id' = id ∧ seq' = seq := by
  unfold classifyLen
  simp only [ite_wrong_eq_matched_iff, not_lt, not_not]
  cases parseMsg (D.drop (headerLength D)) with
  | none => simp
  | some value => simp only [wanted_eq_matched_iff, Option.some_inj, Prod.ext_iff]

/-- A match carries the wanted identifier and sequence. -/
theorem wanted_of_classify_eq_matched {D : List Byte} {target : Word} {id seq id' seq' : Half}
    (h : classify D target id seq = .matched id' seq') : id' = id ∧ seq' = seq := by
  obtain ⟨-, -, -, -, -, -, hwanted⟩ := (classifyLen_eq_matched_iff ..).1 h
  exact hwanted

/-! ### The ENGINE execute step of VALIDATE (42_probe R165) -/

theorem validateStep_of_len_le {s : State} (hlen : s.len.toNat ≤ s.params.dbufBytes) :
    validateStep s =
      finishValue (verdictValue
        (classify ((List.range s.len.toNat).map fun k => readByte s (0x400 + k)) s.target s.ident s.seq)) s :=
  if_neg (Nat.not_lt.2 hlen)

theorem validateStep_of_lt_len {s : State} (hlen : s.params.dbufBytes < s.len.toNat) :
    validateStep s = { s with fatal := true, err := .invalidLength, busy := false, done := true } :=
  if_pos hlen

/-! ### PROBE's acceptance and release (42_probe R171, R178) -/

theorem startProbe_accept (s : State) :
    startProbe (accept .probe s) =
      { s with
        curop := 0x06#8, busy := true, done := false, rv := false, err := .none
        presult := .none, latency := 0#32, elapsed := 0#32, rxlen := 0#16, pstate := .opening
        treq := .openReq, issued := some .openReq } := rfl

theorem probeStep_of_releasing {s : State} (hp : s.pstate = .releasing) : probeStep s = releaseProbe s := by
  unfold probeStep
  rw [hp]

theorem releaseProbe_eq (s : State) :
    releaseProbe s =
      { s with
        issued := some .close, handle := false, presult := s.pres
        latency := if s.pres = .success then BitVec.ofNat 32 (latencyMs s.params.ticksPerMs s.elapsed.toNat) else 0#32
        pstate := .idle, err := .none, busy := false, done := true } := rfl

/-! ### The TRANSPORT messages the sequencer waits for (42_probe R172 to R177) -/

theorem agentStep_transport (m : TransportMsg) (s : State) :
    agentStep (.transport m) s = .next (transportStep m s) := rfl

theorem transportStep_openRsp (ok : Bool) {s : State} (hp : s.pstate = .opening) (ht : s.treq = .openReq) :
    transportStep (.openRsp ok) s = if ok then openSucceeds s else openFails s :=
  if_pos ⟨hp, ht⟩

theorem transportStep_sendRsp (ok : Bool) {s : State} (hp : s.pstate = .sending) (ht : s.treq = .send) :
    transportStep (.sendRsp ok) s = sendAnswered ok s :=
  if_pos ⟨hp, ht⟩

theorem transportStep_rx {d : List Byte} {s : State} (hp : s.pstate = .sent) (hd : d.length ≤ 65535) :
    transportStep (.rx d) s = datagramArrives d s :=
  if_pos ⟨hp, hd⟩

theorem transportStep_fault {s : State} (hp : s.pstate = .sent) : transportStep .fault s = transportFaults s :=
  if_pos hp

theorem openFails_eq (s : State) :
    openFails s =
      { s with
        treq := .none, presult := .socketError, latency := 0#32, pstate := .idle
        err := .none, busy := false, done := true } := rfl

theorem sendAnswered_true (s : State) :
    sendAnswered true s = { s with treq := .none, t0 := s.time, pstate := .sent } := rfl

theorem sendAnswered_false (s : State) :
    sendAnswered false s = { s with treq := .none, pres := .socketError, pstate := .releasing } := rfl

/-! ### The wait window (42_probe R175 to R177) -/

theorem not_expired {s : State} (h : (s.time - s.t0).toNat ≤ s.timeout.toNat) : ¬ expired s = true := by
  rw [expired_iff]
  exact Nat.not_lt.2 h

theorem transportFaults_of_expired {s : State} (h : s.timeout.toNat < (s.time - s.t0).toNat) :
    transportFaults s = s :=
  if_pos ((expired_iff s).2 h)

theorem transportFaults_within {s : State} (h : (s.time - s.t0).toNat ≤ s.timeout.toNat) :
    transportFaults s = { s with pres := .socketError, pstate := .releasing } :=
  if_neg (not_expired h)

theorem datagramArrives_of_expired (d : List Byte) {s : State} (h : s.timeout.toNat < (s.time - s.t0).toNat) :
    datagramArrives d s = s :=
  if_pos ((expired_iff s).2 h)

/-- The state after an accepted datagram (42_probe R175). -/
def acceptDatagram (d : List Byte) (s : State) : State :=
  { storeBytes 0x800 (d.take s.params.rxbufBytes) s with
    elapsed := (s.time - s.t0).setWidth 32
    rxlen := BitVec.ofNat 16 d.length
    pstate := .received }

theorem datagramArrives_within (d : List Byte) {s : State} (h : (s.time - s.t0).toNat ≤ s.timeout.toNat) :
    datagramArrives d s = acceptDatagram d s :=
  if_neg (not_expired h)

/-- Within the window the elapsed ticks are at most TIMEOUT, so 32 bits hold them. -/
theorem acceptDatagram_elapsed_toNat (d : List Byte) {s : State} (h : (s.time - s.t0).toNat ≤ s.timeout.toNat) :
    (acceptDatagram d s).elapsed.toNat = (s.time - s.t0).toNat := by
  have hfits : (s.time - s.t0).toNat < 2 ^ 32 := h.trans_lt s.timeout.isLt
  exact (BitVec.toNat_setWidth ..).trans (Nat.mod_eq_of_lt hfits)

theorem acceptDatagram_rxlen_toNat {d : List Byte} (hd : d.length ≤ 65535) (s : State) :
    (acceptDatagram d s).rxlen.toNat = d.length :=
  Nat.mod_eq_of_lt (Nat.lt_succ_of_le hd)

/-- An accepted datagram's first RXBUF_BYTES bytes lie in RXBUF, and every other byte is as it was (10_state R44). -/
theorem readByte_acceptDatagram (d : List Byte) (s : State) (a : Nat) :
    readByte (acceptDatagram d s) a =
      if 0x800 ≤ a ∧ a < 0x800 + min d.length s.params.rxbufBytes then d.getD (a - 0x800) 0#8 else readByte s a := by
  have hread : readByte (acceptDatagram d s) a = readByte (storeBytes 0x800 (d.take s.params.rxbufBytes) s) a :=
    readByte_congr rfl rfl rfl a
  rw [hread, readByte_storeBytes, List.length_take, min_comm]
  split
  · rw [List.getD_eq_getElem?_getD, List.getElem?_take_of_lt (by omega), List.getD_eq_getElem?_getD]
  · rfl

theorem readByte_acceptDatagram_stored {d : List Byte} {s : State} {k : Nat} (hd : k < d.length)
    (hcap : k < s.params.rxbufBytes) : readByte (acceptDatagram d s) (0x800 + k) = d.getD k 0#8 := by
  rw [readByte_acceptDatagram, if_pos (by omega), Nat.add_sub_cancel_left]

theorem readByte_acceptDatagram_outside {d : List Byte} {s : State} {a : Nat}
    (h : a < 0x800 ∨ 0x800 + min d.length s.params.rxbufBytes ≤ a) :
    readByte (acceptDatagram d s) a = readByte s a := by
  rw [readByte_acceptDatagram, if_neg (by omega)]

/-! ### The statements -/

/-- Settles O35: the validator's steps one by one, with the header fields read as numbers; 8 bytes after the header make a
length of the header's and 8. -/
theorem classifyMatchesExactly : Obligations.ClassifyMatchesExactly := by
  unfold Obligations.ClassifyMatchesExactly
  intro D target id seq id' seq'
  have hlength : D.length - headerLength D = 8 ↔ D.length = headerLength D + 8 := by omega
  rw [classify, classifyLen_eq_matched_iff, hlength, ipVersion_eq_four_iff, headerLength_eq, sourceAddress_eq]
  rfl

/-- Settles O42: an accepted datagram's fields and bytes, and nothing for a datagram after the window. -/
theorem datagramAcceptedWithinWindow : Obligations.DatagramAcceptedWithinWindow := by
  unfold Obligations.DatagramAcceptedWithinWindow
  intro s d hp hd
  rw [agentStep_transport, transportStep_rx hp hd]
  refine ⟨fun hafter => ?_, fun hwithin => ?_⟩
  · rw [datagramArrives_of_expired d hafter]
  · rw [datagramArrives_within d hwithin]
    exact ⟨acceptDatagram d s, rfl, acceptDatagram_elapsed_toNat d hwithin, acceptDatagram_rxlen_toNat hd s,
      fun k => readByte_acceptDatagram_stored, fun a => readByte_acceptDatagram_outside, rfl⟩

/-- Settles O7: acceptance, and what PROBE adds to it. -/
theorem probeAcceptanceOpensTransport : Obligations.ProbeAcceptanceOpensTransport := by
  unfold Obligations.ProbeAcceptanceOpensTransport
  refine ⟨decode_encode .probe, fun s hb hf => ?_⟩
  rw [exec_idle .probe s hb, if_neg (Bool.eq_false_iff.1 hf), if_pos rfl, startProbe_accept]

/-- Settles O34: the length check decides for InvalidLengthError, and behind it the verdict decides RESULT and RV. -/
theorem validateWritesTheVerdict : Obligations.ValidateWritesTheVerdict := by
  unfold Obligations.ValidateWritesTheVerdict
  refine ⟨decode_encode .validate, fun s hb => ?_⟩
  rw [exec_busy_validate s hb]
  refine ⟨fun hlen => ⟨fun id seq hmatch => ?_, fun hwrong => ?_⟩, fun hlen => ?_⟩
  · obtain ⟨hid, hseq⟩ := wanted_of_classify_eq_matched hmatch
    refine ⟨hid, hseq, ?_⟩
    rw [validateStep_of_len_le hlen, hmatch, verdictValue, finishValue_some]
  · rw [validateStep_of_len_le hlen, hwrong, verdictValue, finishValue_none]
  · rw [validateStep_of_lt_len hlen]

/-- Settles O40: the reaction to a failed OPEN is a completion with SOCKET_ERROR. -/
theorem openFailureIsSocketError : Obligations.OpenFailureIsSocketError := by
  unfold Obligations.OpenFailureIsSocketError
  intro s hp ht
  rw [agentStep_transport, transportStep_openRsp false hp ht, if_neg Bool.false_ne_true, openFails_eq]

/-- Settles O41: the reaction to each of the two SEND answers. -/
theorem sendAnswerStampsOrFails : Obligations.SendAnswerStampsOrFails := by
  unfold Obligations.SendAnswerStampsOrFails
  intro s hp ht
  constructor
  · rw [agentStep_transport, transportStep_sendRsp true hp ht, sendAnswered_true]
  · rw [agentStep_transport, transportStep_sendRsp false hp ht, sendAnswered_false]

/-- Settles O43: expiry has priority over the fault. -/
theorem transportFaultWithinWindow : Obligations.TransportFaultWithinWindow := by
  unfold Obligations.TransportFaultWithinWindow
  intro s hp
  rw [agentStep_transport, transportStep_fault hp]
  refine ⟨fun hafter => ?_, fun hwithin => ?_⟩
  · rw [transportFaults_of_expired hafter]
  · rw [transportFaults_within hwithin]

/-- Settles O47: in RELEASING the ENGINE step of PROBE is the release. -/
theorem releasePublishesTheOutcome : Obligations.ReleasePublishesTheOutcome := by
  unfold Obligations.ReleasePublishesTheOutcome
  intro s hb hp
  rw [exec_busy_probe s hb, probeStep_of_releasing hp, releaseProbe_eq]

end Sys2Proof.Machine

/-! SUPPORT. The fold as arithmetic modulo 0xFFFF, the word sum of the byte sequences that 40_checksum speaks of, and the
statements on foldedSum that 40_checksum derives. -/

namespace Sys2Proof.Machine

/-! ### The fold as arithmetic modulo 0xFFFF (40_checksum R120, R122) -/

/-- A turn of the loop takes a multiple of 0xFFFF away, so the residue stays. -/
theorem foldLoop_mod (fuel S : Nat) : foldLoop fuel S % 0xFFFF = S % 0xFFFF := by
  induction fuel generalizing S with
  | zero => rfl
  | succ fuel ih =>
    rw [foldLoop]
    split
    · rw [ih]
      omega
    · rfl

/-- The loop never turns a sum that is not 0 into 0. -/
theorem foldLoop_pos {S : Nat} (fuel : Nat) (h : 0 < S) : 0 < foldLoop fuel S := by
  induction fuel generalizing S with
  | zero => exact h
  | succ fuel ih =>
    rw [foldLoop]
    split
    · exact ih (by omega)
    · exact h

theorem fold_mod (S : Nat) : fold S % 0xFFFF = S % 0xFFFF := foldLoop_mod S S

theorem fold_pos {S : Nat} (h : 0 < S) : 0 < fold S := foldLoop_pos S h

@[simp] theorem fold_zero : fold 0 = 0 := rfl

theorem fold_eq_zero_iff (S : Nat) : fold S = 0 ↔ S = 0 := by
  refine ⟨fun h => ?_, fun h => by rw [h, fold_zero]⟩
  by_contra hS
  have hpos := fold_pos (Nat.pos_of_ne_zero hS)
  omega

/-- The closed form of R122: of the numbers 1 to 0xFFFF the one with the residue of S. -/
theorem fold_of_pos {S : Nat} (h : 0 < S) : fold S = (S - 1) % 0xFFFF + 1 := by
  have hlt := fold_lt S
  have hmod := fold_mod S
  have hpos := fold_pos h
  omega

/-- Two sums fold alike when they have one residue and none of them, or both, are 0. -/
theorem fold_congr {S T : Nat} (hmod : S % 0xFFFF = T % 0xFFFF) (hzero : S = 0 ↔ T = 0) : fold S = fold T := by
  obtain rfl | hS := Nat.eq_zero_or_pos S
  · rw [hzero.1 rfl]
  · rw [fold_of_pos hS, fold_of_pos (by omega : 0 < T)]
    omega

theorem fold_of_lt {S : Nat} (h : S < 0x10000) : fold S = S := by
  obtain rfl | hS := Nat.eq_zero_or_pos S
  · exact fold_zero
  · rw [fold_of_pos hS]
    omega

/-- A sum folds to all ones exactly when it is a positive multiple of 0xFFFF. -/
theorem fold_eq_allOnes_iff (S : Nat) : fold S = 0xFFFF ↔ 0 < S ∧ S % 0xFFFF = 0 := by
  obtain rfl | hS := Nat.eq_zero_or_pos S
  · rw [fold_zero]
    omega
  · rw [fold_of_pos hS]
    omega

/-- Folding a part of a sum early changes nothing. -/
theorem fold_fold_add (S T : Nat) : fold (fold S + T) = fold (S + T) := by
  have hmod := fold_mod S
  have hzero := fold_eq_zero_iff S
  exact fold_congr (by omega) (by omega)

theorem fold_add_fold (S T : Nat) : fold (S + fold T) = fold (S + T) := by
  rw [Nat.add_comm, fold_fold_add, Nat.add_comm]

/-- A sum and the complement of its fold together fold to all ones (40_checksum R126). -/
theorem fold_complement_add (S : Nat) : fold (0xFFFF - fold S + S) = 0xFFFF := by
  have hlt := fold_lt S
  have hmod := fold_mod S
  have hzero := fold_eq_zero_iff S
  rw [fold_eq_allOnes_iff]
  omega

theorem fold_add_allOnes_of_pos {S : Nat} (h : 0 < S) : fold (S + 0xFFFF) = fold S :=
  fold_congr (by omega) (by omega)

/-! ### The word sum (40_checksum R120) -/

/-- A byte sequence that begins with no whole word is empty or one byte. -/
theorem eq_nil_or_singleton {B : List Byte} (h : ∀ x y r, B = x :: y :: r → False) : B = [] ∨ ∃ x, B = [x] :=
  match B, h with
  | [], _ => .inl rfl
  | [x], _ => .inr ⟨x, rfl⟩
  | x :: y :: r, h => (h x y r rfl).elim

theorem length_even_of_cons_cons {x y : Byte} {r : List Byte} (h : (x :: y :: r).length % 2 = 0) :
    r.length % 2 = 0 := by
  simp only [List.length_cons] at h
  omega

theorem be16_eq_zero_iff (a b : Byte) : (be16 a b).toNat = 0 ↔ a = 0#8 ∧ b = 0#8 := by
  rw [be16_toNat, ← BitVec.toNat_inj, ← BitVec.toNat_inj]
  simp only [BitVec.toNat_ofNat, Nat.zero_mod]
  omega

/-- Bytes that make up whole words sum to 0 exactly when each of them is 0. -/
theorem wordSum_eq_zero_iff (B : List Byte) (h : B.length % 2 = 0) : wordSum B = 0 ↔ ∀ b ∈ B, b = 0#8 := by
  fun_induction wordSum B with
  | case1 b0 b1 rest ih =>
    rw [Nat.add_eq_zero_iff, be16_eq_zero_iff, ih (length_even_of_cons_cons h), List.forall_mem_cons, List.forall_mem_cons,
      and_assoc]
  | case2 B hB =>
    obtain rfl | ⟨x, rfl⟩ := eq_nil_or_singleton hB
    · simp
    · cases h

/-- The word sum of a list of words is the sum of their values, in whatever order they stand. -/
theorem wordSum_flatMap (P : List (Byte × Byte)) :
    wordSum (P.flatMap fun p => [p.1, p.2]) = (P.map fun p => (be16 p.1 p.2).toNat).sum := by
  induction P with
  | nil => rfl
  | cons p P ih => rw [List.flatMap_cons, List.map_cons, List.sum_cons, ← ih]; rfl

theorem wordSum_append_zeros {B : List Byte} (h : B.length % 2 = 0) : wordSum (B ++ [0#8, 0#8]) = wordSum B := by
  rw [wordSum_append B _ h]
  rfl

theorem wordSum_append_allOnes {B : List Byte} (h : B.length % 2 = 0) :
    wordSum (B ++ [0xFF#8, 0xFF#8]) = wordSum B + 0xFFFF := by
  rw [wordSum_append B _ h]
  rfl

/-- The word sum of a message with a 16-bit field `h` at an even offset. -/
theorem wordSum_field {A : List Byte} (h : Half) (C : List Byte) (hA : A.length % 2 = 0) :
    wordSum (A ++ halfBytes h ++ C) = h.toNat + wordSum (A ++ C) := by
  rw [List.append_assoc, wordSum_append A _ hA, wordSum_append A C hA, wordSum_halfBytes]
  omega

/-! ### A flipped bit (40_checksum R127 (d)) -/

/-- Flipping bit `k` of a number adds or takes away `2 ^ k`. -/
theorem xor_two_pow_cases (n k : Nat) : n ^^^ 2 ^ k = n + 2 ^ k ∨ (n ^^^ 2 ^ k) + 2 ^ k = n := by
  have hpos : 0 < 2 ^ k := Nat.two_pow_pos k
  have hdiv : (n ^^^ 2 ^ k) / 2 ^ k = n / 2 ^ k ^^^ 1 := by rw [Nat.xor_div_two_pow, Nat.div_self hpos]
  have hmod : (n ^^^ 2 ^ k) % 2 ^ k = n % 2 ^ k := by rw [Nat.xor_mod_two_pow, Nat.mod_self, Nat.xor_zero]
  have hn := Nat.div_add_mod n (2 ^ k)
  have hflip := Nat.div_add_mod (n ^^^ 2 ^ k) (2 ^ k)
  rw [hdiv, hmod] at hflip
  obtain heven | hodd := Nat.even_or_odd (n / 2 ^ k)
  · rw [Nat.xor_one_of_even heven, Nat.mul_succ] at hflip
    exact .inl (by omega)
  · rw [Nat.xor_one_of_odd hodd, Nat.mul_sub_one] at hflip
    have hle : 2 ^ k ≤ 2 ^ k * (n / 2 ^ k) := Nat.le_mul_of_pos_right _ hodd.pos
    exact .inr (by omega)

theorem flippedByte_cases (b : Byte) {k : Nat} (hk : k < 8) :
    (b ^^^ (1#8 <<< k)).toNat = b.toNat + 2 ^ k ∨ (b ^^^ (1#8 <<< k)).toNat + 2 ^ k = b.toNat := by
  have hbit : (1#8 <<< k).toNat = 2 ^ k := by
    rw [BitVec.toNat_shiftLeft, Nat.shiftLeft_eq, show (1#8).toNat = 1 from rfl, one_mul]
    exact Nat.mod_eq_of_lt (Nat.pow_lt_pow_right (by decide) hk)
  rw [BitVec.toNat_xor, hbit]
  exact xor_two_pow_cases b.toNat k

/-- Flipping a bit of a word's byte moves the word sum by less than 0xFFFF, up or down, and never by 0. -/
theorem wordSum_flipBit {B : List Byte} (h : B.length % 2 = 0) {i k : Nat} (hi : i < B.length) (hk : k < 8) :
    ∃ d, 0 < d ∧ d < 0xFFFF ∧
      (wordSum (flipBit B i k) = wordSum B + d ∨ wordSum (flipBit B i k) + d = wordSum B) := by
  have hpow : 0 < 2 ^ k ∧ 2 ^ k < 2 ^ 8 := ⟨Nat.two_pow_pos k, Nat.pow_lt_pow_right (by decide) hk⟩
  fun_induction wordSum B generalizing i with
  | case1 b0 b1 rest ih =>
    match i with
    | 0 =>
      refine ⟨2 ^ k * 256, by omega, by omega, ?_⟩
      have hflip := flippedByte_cases b0 hk
      simp only [flipBit, List.modify_zero_cons, wordSum, be16_toNat]
      omega
    | 1 =>
      refine ⟨2 ^ k, by omega, by omega, ?_⟩
      have hflip := flippedByte_cases b1 hk
      simp only [flipBit, List.modify_succ_cons, List.modify_zero_cons, wordSum, be16_toNat]
      omega
    | i + 2 =>
      obtain ⟨d, hd, hlt, hmove⟩ := ih (length_even_of_cons_cons h) (i := i) (by simpa using hi)
      refine ⟨d, hd, hlt, ?_⟩
      simp only [flipBit, List.modify_succ_cons, wordSum] at hmove ⊢
      omega
  | case2 B hB =>
    obtain rfl | ⟨x, rfl⟩ := eq_nil_or_singleton hB
    · cases hi
    · cases h

/-- A message that folds to all ones does not with one bit flipped. -/
theorem foldedSum_flipBit_ne_allOnes {B : List Byte} (h : B.length % 2 = 0) {i k : Nat} (hi : i < B.length) (hk : k < 8)
    (hB : foldedSum B = 0xFFFF) : foldedSum (flipBit B i k) ≠ 0xFFFF := by
  obtain ⟨d, hpos, hlt, hmove⟩ := wordSum_flipBit h hi hk
  unfold foldedSum at hB ⊢
  rw [fold_eq_allOnes_iff] at hB
  rw [Ne, fold_eq_allOnes_iff]
  omega

/-! ### The end-around-carry adder (40_checksum R124 (b)) -/

theorem endAroundAdd_eq_fold {acc w : Nat} (hacc : acc < 0x10000) (hw : w < 0x10000) :
    endAroundAdd acc w = fold (acc + w) := by
  unfold endAroundAdd
  split
  · rw [fold_of_pos (by omega)]
    omega
  · rw [fold_of_lt (by omega)]

/-- The accumulator holds at every word the fold of the words so far. -/
theorem endAroundSum_eq_fold (B : List Byte) {acc : Nat} (hacc : acc < 0x10000) :
    endAroundSum acc B = fold (acc + wordSum B) := by
  fun_induction endAroundSum acc B with
  | case1 acc b0 b1 rest ih =>
    have hadd := endAroundAdd_eq_fold hacc (be16 b0 b1).isLt
    rw [ih (by rw [hadd]; exact fold_lt _), hadd, fold_fold_add, wordSum, Nat.add_assoc]
  | case2 B acc hB => obtain rfl | ⟨x, rfl⟩ := eq_nil_or_singleton hB <;> exact (fold_of_lt hacc).symm

/-! ### The statements -/

/-- Settles O22: the fold keeps the residue modulo 0xFFFF, and 0 is the fold of 0 alone. -/
theorem foldedSumClosedForm : Obligations.FoldedSumClosedForm := by
  unfold Obligations.FoldedSumClosedForm
  intro B
  refine ⟨fun h => ?_, fun h => fold_of_pos h, foldedSum_lt B, fun heven => ?_⟩
  · rw [foldedSum, h, fold_zero]
  · rw [foldedSum, fold_eq_zero_iff, wordSum_eq_zero_iff B heven]

/-- Settles O24: the inserted field is the complement of the fold of all the other words. -/
theorem checksumInsertionFoldsToAllOnes : Obligations.ChecksumInsertionFoldsToAllOnes := by
  unfold Obligations.ChecksumInsertionFoldsToAllOnes
  intro A C hA _
  have hplaceholder : wordSum (A ++ [0#8, 0#8] ++ C) = wordSum (A ++ C) := by
    rw [wordSum_append _ C (by simpa using hA), wordSum_append_zeros hA, wordSum_append A C hA]
  rw [foldedSum, wordSum_field _ C hA, checksum_toNat, foldedSum, hplaceholder, fold_complement_add]

/-- Settles O25: each law is one on word sums, which add over whole words. -/
theorem foldedSumWordLaws : Obligations.FoldedSumWordLaws := by
  unfold Obligations.FoldedSumWordLaws
  refine ⟨fun P Q hPQ => ?_, fun B C hB => ⟨?_, ?_, fun hpos => ?_, fun hzero => ?_, fun i k hB' hi hk => ?_⟩⟩
  · rw [foldedSum, foldedSum, wordSum_flatMap, wordSum_flatMap, (hPQ.map _).sum_eq]
  · calc foldedSum (B ++ C)
      _ = fold (wordSum B + wordSum C) := by rw [foldedSum, wordSum_append B C hB]
      _ = fold (foldedSum B + wordSum C) := (fold_fold_add _ _).symm
      _ = fold (foldedSum B + foldedSum C) := (fold_add_fold _ _).symm
  · rw [foldedSum, foldedSum, wordSum_append _ C (by simpa using hB), wordSum_append_zeros hB, wordSum_append B C hB]
  · rw [foldedSum, Ne, fold_eq_zero_iff] at hpos
    rw [foldedSum, foldedSum, wordSum_append_allOnes hB, fold_add_allOnes_of_pos (Nat.pos_of_ne_zero hpos)]
  · rw [foldedSum, fold_eq_zero_iff] at hzero
    rw [foldedSum, wordSum_append_allOnes hB, hzero, Nat.zero_add, fold_of_lt (by decide)]
  · exact foldedSum_flipBit_ne_allOnes hB hi hk hB'

/-- Settles O26: from the accumulator 0 the loop invariant is the statement. -/
theorem endAroundCarryAgrees : Obligations.EndAroundCarryAgrees := by
  unfold Obligations.EndAroundCarryAgrees
  intro B
  rw [endAroundSum_eq_fold B (by decide), Nat.zero_add, foldedSum]

end Sys2Proof.Machine

/-! SUPPORT. The Echo message as a word sum, composeMsg without its self-check, bytes stored in TXBUF, and the statements on
the codec that 41_codec derives. -/

namespace Sys2Proof.Machine

/-! ### The Echo message (30_encoding R100) -/

theorem wordSum_echoMsg (type : Byte) (c id seq : Half) :
    wordSum (echoMsg type c id seq) = type.toNat * 256 + (c.toNat + id.toNat + seq.toNat) := by
  have hfields : echoMsg type c id seq = [type, 0#8] ++ (halfBytes c ++ (halfBytes id ++ (halfBytes seq ++ []))) := by
    simp [echoMsg]
  rw [hfields, wordSum_append _ _ (by simp), wordSum_halfBytes, wordSum_halfBytes, wordSum_halfBytes]
  simp only [wordSum, be16_toNat, BitVec.toNat_ofNat, Nat.zero_mod]
  omega

/-- The checksum of a message's placeholder complements the fold of its type, identifier and sequence. -/
theorem checksum_placeholder_toNat (type : Byte) (id seq : Half) :
    (checksum (echoMsg type 0#16 id seq)).toNat = 0xFFFF - fold (type.toNat * 256 + (id.toNat + seq.toNat)) := by
  rw [checksum_toNat, foldedSum, wordSum_echoMsg, BitVec.toNat_ofNat, Nat.zero_mod, Nat.zero_add]

/-- A message with the checksum of its placeholder folds to all ones. -/
theorem foldedSum_echoMsg_checksum (type : Byte) (id seq : Half) :
    foldedSum (echoMsg type (checksum (echoMsg type 0#16 id seq)) id seq) = 0xFFFF := by
  rw [foldedSum, wordSum_echoMsg, checksum_placeholder_toNat, Nat.add_assoc, Nat.add_left_comm]
  exact fold_complement_add _

theorem echoMsg_length (type : Byte) (c id seq : Half) : (echoMsg type c id seq).length = 8 := rfl

/-! ### composeMsg (41_codec R140, R142, R143) -/

/-- The checksum of the Echo Request of `id` and `seq`. -/
def requestChecksum (id seq : Half) : Half := checksum (echoMsg typeRequest 0#16 id seq)

/-- The self-check of composeMsg never fails (41_codec R143). -/
theorem composeMsg_eq (id seq : Half) :
    composeMsg id seq = some (echoMsg typeRequest (requestChecksum id seq) id seq, requestChecksum id seq) :=
  if_neg (not_not.2 (foldedSum_echoMsg_checksum typeRequest id seq))

theorem requestChecksum_toNat (id seq : Half) :
    (requestChecksum id seq).toNat = 0xFFFF - fold (0x0800 + (id.toNat + seq.toNat)) :=
  checksum_placeholder_toNat typeRequest id seq

/-! ### parseMsg on messages (41_codec R141) -/

/-- An Echo Reply whose words fold to all ones parses to its identifier and sequence. -/
theorem parseMsg_echoReply {c id seq : Half} (h : foldedSum (echoMsg typeReply c id seq) = 0xFFFF) :
    parseMsg (echoMsg typeReply c id seq) = some (id, seq) :=
  (parseMsg_eq_some_iff (echoMsg_length ..) id seq).2
    ⟨h, rfl, rfl, (be16_halfBytes id).symm, (be16_halfBytes seq).symm⟩

theorem parseMsg_eq_none_of_foldedSum_ne {B : List Byte} (hB : B.length = 8) (h : foldedSum B ≠ 0xFFFF) :
    parseMsg B = none := by
  rw [Option.eq_none_iff_forall_ne_some]
  rintro ⟨id, seq⟩ hsome
  exact h ((parseMsg_eq_some_iff hB id seq).1 hsome).1

/-! ### Messages in TXBUF (41_codec R144, 42_probe R172) -/

theorem readByte_txbuf_of_lt {M : List Byte} (hM : M.length = 8) (s : State) {k : Nat} (hk : k < 8) :
    readByte (storeBytes txbufBase M s) (0x040 + k) = M.getD k 0#8 := by
  rw [readByte_storeBytes, hM, if_pos ⟨Nat.le_add_right _ k, Nat.add_lt_add_left hk _⟩, Nat.add_sub_cancel_left]

theorem readByte_txbuf_of_outside {M : List Byte} (hM : M.length = 8) (s : State) {a : Nat}
    (ha : a < 0x040 ∨ 0x048 ≤ a) : readByte (storeBytes txbufBase M s) a = readByte s a := by
  rw [readByte_storeBytes, hM, if_neg (by unfold txbufBase; omega)]

theorem composeStep_eq (s : State) :
    composeStep s =
      finish .none { storeBytes txbufBase (echoMsg typeRequest (requestChecksum s.ident s.seq) s.ident s.seq) s with
        result := (requestChecksum s.ident s.seq).setWidth 32 } := by
  rw [composeStep, composeMsg_eq]

/-! ### The statements -/

/-- Settles O27: COMPOSE stores the composed message, of 8 bytes, and writes RESULT. -/
theorem composeWritesTheRequest : Obligations.ComposeWritesTheRequest := by
  unfold Obligations.ComposeWritesTheRequest
  refine ⟨decode_encode .compose, fun s hb => ?_⟩
  have hlength := echoMsg_length typeRequest (requestChecksum s.ident s.seq) s.ident s.seq
  refine ⟨composeStep s, requestChecksum s.ident s.seq, rfl, exec_busy_compose s hb, fun k hk => ?_, fun a ha => ?_, ?_⟩
  · rw [composeStep_eq]
    exact readByte_txbuf_of_lt hlength s hk
  · rw [composeStep_eq]
    exact readByte_txbuf_of_outside hlength s ha
  · rw [composeStep_eq, setWidth_eq_zero_append]
    rfl

/-- Settles O28: the checksum of the placeholder makes the message fold to all ones. -/
theorem composeSelfCheckNeverFails : Obligations.ComposeSelfCheckNeverFails := by
  unfold Obligations.ComposeSelfCheckNeverFails
  intro id seq
  exact ⟨_, requestChecksum id seq, composeMsg_eq id seq, rfl, rfl, foldedSum_echoMsg_checksum typeRequest id seq⟩

/-- Settles O29: the sum under the fold is not 0, so the fold is 1 to 0xFFFF. -/
theorem composedChecksumClosedForm : Obligations.ComposedChecksumClosedForm := by
  unfold Obligations.ComposedChecksumClosedForm
  intro id seq
  have hvalue : (requestChecksum id seq).toNat = 0xFFFF - fold (0x0800 + id.toNat + seq.toNat) := by
    rw [requestChecksum_toNat, Nat.add_assoc]
  have hfold := fold_of_pos (by omega : 0 < 0x0800 + id.toNat + seq.toNat)
  refine ⟨_, requestChecksum id seq, composeMsg_eq id seq, hvalue, by omega, ?_⟩
  rw [← BitVec.toNat_inj, hvalue, hfold, BitVec.toNat_ofNat, Nat.zero_mod]
  omega

/-- Settles O32: the three checksums are numbers below 0x10000 that are told apart by their residues modulo 0xFFFF and by
which of them are 0. -/
theorem replyRoundTrip : Obligations.ReplyRoundTrip := by
  unfold Obligations.ReplyRoundTrip
  intro id seq
  refine ⟨parseMsg_echoReply (foldedSum_echoMsg_checksum typeReply id seq), fun M c c' c'' hM hc' hc'' => ?_⟩
  obtain ⟨rfl, rfl⟩ := Prod.mk.inj (Option.some.inj ((composeMsg_eq id seq).symm.trans hM))
  have hc := requestChecksum_toNat id seq
  have hreply : c'.toNat = 0xFFFF - fold (id.toNat + seq.toNat) := by
    rw [hc', checksum_placeholder_toNat, BitVec.toNat_ofNat, Nat.zero_mod, Nat.zero_mul, Nat.zero_add]
  rw [fold_of_pos (by omega)] at hc hc''
  have hupdated : foldedSum (echoMsg typeReply c'' id seq) = 0xFFFF := by
    rw [foldedSum, wordSum_echoMsg, fold_eq_allOnes_iff, BitVec.toNat_ofNat, Nat.zero_mod]
    omega
  have hcleared : foldedSum (echoMsg typeReply (requestChecksum id seq) id seq) = 0xF7FF := by
    rw [foldedSum, wordSum_echoMsg, BitVec.toNat_ofNat, Nat.zero_mod, fold_of_pos (by omega)]
    omega
  refine ⟨parseMsg_echoReply hupdated, fun hnot => ?_, fun hpos hmod => ⟨?_, ?_⟩, hcleared,
    parseMsg_eq_none_of_foldedSum_ne (echoMsg_length ..) (hcleared.trans_ne (by decide))⟩
  · apply BitVec.eq_of_toNat_eq
    obtain hzero | hpos := Nat.eq_zero_or_pos (id.toNat + seq.toNat)
    · rw [hzero, fold_zero] at hreply
      omega
    · rw [fold_of_pos hpos] at hreply
      omega
  · apply BitVec.eq_of_toNat_eq
    rw [hreply, (fold_eq_allOnes_iff _).2 ⟨hpos, hmod⟩]
    rfl
  · apply BitVec.eq_of_toNat_eq
    rw [hc'', show (0xFFFF#16).toNat = 0xFFFF from rfl]
    omega

/-- Settles O33: a flipped bit changes the folded sum, which parseMsg wants to be all ones. -/
theorem singleBitFlipIsRefused : Obligations.SingleBitFlipIsRefused := by
  unfold Obligations.SingleBitFlipIsRefused
  intro R i k hR hsum _ _ hi hk
  have hflip := foldedSum_flipBit_ne_allOnes (by rw [hR]) (hi.trans_eq hR.symm) hk hsum
  exact ⟨hflip, parseMsg_eq_none_of_foldedSum_ne (by rw [flipBit, List.length_modify, hR]) hflip⟩

end Sys2Proof.Machine

/-! SUPPORT. The latency's rounding, what the validator reads, the ENGINE steps of PROBE state by state, and the statements of
42_probe on them. -/

namespace Sys2Proof.Machine

/-! ### The latency (42_probe R163) -/

theorem latencyMs_of_below {T E : Nat} (h : 2 * (E % T) < T) : latencyMs T E = E / T := if_pos h

theorem latencyMs_of_above {T E : Nat} (h : T < 2 * (E % T)) : latencyMs T E = E / T + 1 := by
  rw [latencyMs, if_neg (by omega), if_pos h]

theorem latencyMs_of_tie {T E : Nat} (h : 2 * (E % T) = T) : latencyMs T E = E / T + E / T % 2 := by
  rw [latencyMs, if_neg (by omega), if_neg (by omega)]

/-- The three cases of R163. -/
theorem latencyMs_cases (T E : Nat) :
    (2 * (E % T) < T ∧ latencyMs T E = E / T) ∨ (T < 2 * (E % T) ∧ latencyMs T E = E / T + 1) ∨
    (2 * (E % T) = T ∧ latencyMs T E = E / T + E / T % 2) := by
  obtain h | h | h := Nat.lt_trichotomy (2 * (E % T)) T
  · exact .inl ⟨h, latencyMs_of_below h⟩
  · exact .inr (.inr ⟨h, latencyMs_of_tie h⟩)
  · exact .inr (.inl ⟨h, latencyMs_of_above h⟩)

/-- Rounding goes down to the quotient or up by one. -/
theorem latencyMs_between (T E : Nat) : E / T ≤ latencyMs T E ∧ latencyMs T E ≤ E / T + 1 := by
  obtain ⟨-, h⟩ | ⟨-, h⟩ | ⟨-, h⟩ := latencyMs_cases T E <;> omega

/-- Twice the rounding error is at most T, and T itself only at a tie, which goes to the even neighbour. -/
theorem latencyMs_nearest {T : Nat} (hT : 0 < T) (E : Nat) :
    2 * E ≤ 2 * (latencyMs T E * T) + T ∧ 2 * (latencyMs T E * T) ≤ 2 * E + T ∧
    (2 * E = 2 * (latencyMs T E * T) + T ∨ 2 * (latencyMs T E * T) = 2 * E + T → latencyMs T E % 2 = 0) := by
  have hE := Nat.div_add_mod' E T
  have hrem := Nat.mod_lt E hT
  obtain ⟨h, hl⟩ | ⟨h, hl⟩ | ⟨h, hl⟩ := latencyMs_cases T E
  · rw [hl]
    omega
  · rw [hl, Nat.succ_mul (E / T)]
    omega
  · have hparity : E / T % 2 = 0 ∨ E / T % 2 = 1 := Nat.mod_two_eq_zero_or_one _
    obtain heven | hodd := hparity
    · rw [hl, heven, Nat.add_zero]
      omega
    · rw [hl, hodd, Nat.succ_mul (E / T)]
      omega

/-- No latency in milliseconds is more than the elapsed ticks: rounding up wants a remainder. -/
theorem latencyMs_le {T : Nat} (hT : 0 < T) (E : Nat) : latencyMs T E ≤ E := by
  have hE := Nat.div_add_mod' E T
  have hquot : E / T ≤ E / T * T := Nat.le_mul_of_pos_right _ hT
  obtain ⟨h, hl⟩ | ⟨h, hl⟩ | ⟨h, hl⟩ := latencyMs_cases T E <;> omega

/-- Under one quotient the remainder decides, and between quotients the rounding stays within one. -/
theorem latencyMs_mono (T : Nat) {E E' : Nat} (h : E ≤ E') : latencyMs T E ≤ latencyMs T E' := by
  obtain hlt | heq := (Nat.div_le_div_right (c := T) h).lt_or_eq
  · exact (latencyMs_between T E).2.trans (Nat.le_trans hlt (latencyMs_between T E').1)
  · have hrem : E % T ≤ E' % T := by
      have hE := Nat.div_add_mod E T
      have hE' := Nat.div_add_mod E' T
      rw [heq] at hE
      omega
    obtain ⟨h1, hl⟩ | ⟨h1, hl⟩ | ⟨h1, hl⟩ := latencyMs_cases T E <;>
      obtain ⟨h2, hl'⟩ | ⟨h2, hl'⟩ | ⟨h2, hl'⟩ := latencyMs_cases T E' <;> omega

/-! ### What the validator reads (42_probe R160, R162, R179) -/

theorem headerLength_le (D : List Byte) : headerLength D ≤ 60 := by
  rw [headerLength_eq]
  omega

/-- The verdict depends on the named header bytes and on what follows the header. -/
theorem classifyLen_congr {D E : List Byte} (L : Nat) (target : Word) (id seq : Half)
    (h0 : byteAt D 0 = byteAt E 0) (h9 : byteAt D 9 = byteAt E 9) (hsource : sourceAddress D = sourceAddress E)
    (hdrop : D.drop (headerLength D) = E.drop (headerLength D)) :
    classifyLen D L target id seq = classifyLen E L target id seq := by
  have hheader : headerLength D = headerLength E := by rw [headerLength, h0, headerLength]
  have hversion : ipVersion D = ipVersion E := by rw [ipVersion, h0, ipVersion]
  rw [hheader] at hdrop
  unfold classifyLen
  rw [hsource, hversion, h9, hheader, hdrop]

/-- Two lists of one length that agree from `n` on have the same rest. -/
theorem drop_eq_of_getD_eq {D E : List Byte} {n : Nat} (hlen : D.length = E.length)
    (h : ∀ k, n ≤ k → D.getD k 0#8 = E.getD k 0#8) : D.drop n = E.drop n := by
  refine List.ext_getElem (by rw [List.length_drop, List.length_drop, hlen]) fun k hD hE => ?_
  rw [List.length_drop] at hD hE
  have hk := h (n + k) (Nat.le_add_right n k)
  rw [List.getD_eq_getElem _ _ (by omega), List.getD_eq_getElem _ _ (by omega)] at hk
  rwa [List.getElem_drop, List.getElem_drop]

/-- No datagram of more than 68 bytes matches: IHL counts at most 60 of them. -/
theorem classifyLen_of_long (D : List Byte) {L : Nat} (hL : 68 < L) (target : Word) (id seq : Half) :
    classifyLen D L target id seq = .wrong := by
  cases hv : classifyLen D L target id seq with
  | wrong => rfl
  | matched id' seq' =>
    obtain ⟨-, -, -, -, hlen, -⟩ := (classifyLen_eq_matched_iff ..).1 hv
    have hheader := headerLength_le D
    omega

/-- What a legal RXBUF keeps is judged as the whole datagram (42_probe R179). -/
theorem classifyLen_take {cap : Nat} (hcap : 68 ≤ cap) (D : List Byte) (target : Word) (id seq : Half) :
    classifyLen (D.take cap) D.length target id seq = classify D target id seq := by
  obtain hfits | hlong := le_or_gt D.length cap
  · rw [List.take_of_length_le hfits, classify]
  · rw [classify, classifyLen_of_long _ (by omega), classifyLen_of_long _ (by omega)]

/-- The stored bytes of an accepted datagram are its first RXBUF_BYTES bytes. -/
theorem storedDatagram_acceptDatagram {d : List Byte} (hd : d.length ≤ 65535) (s : State) :
    storedDatagram (acceptDatagram d s) = d.take s.params.rxbufBytes := by
  have hcount : min (acceptDatagram d s).rxlen.toNat (acceptDatagram d s).params.rxbufBytes =
      min s.params.rxbufBytes d.length := by
    rw [acceptDatagram_rxlen_toNat hd]
    exact min_comm _ _
  unfold storedDatagram
  refine List.ext_getElem (by rw [readBytes_length, List.length_take, hcount]) fun k hk hk' => ?_
  rw [List.length_take] at hk'
  rw [← List.getD_eq_getElem _ 0#8, readBytes_getD, if_pos (by rw [hcount]; exact hk'),
    readByte_acceptDatagram_stored (by omega) (by omega), List.getElem_take, List.getD_eq_getElem]

/-! ### The ENGINE steps of PROBE (42_probe R176, R179, R181) -/

theorem probeStep_of_waiting {s : State} (hp : s.pstate = .opening ∨ s.pstate = .sending) : probeStep s = s := by
  unfold probeStep
  obtain hp | hp := hp <;> rw [hp]

theorem probeStep_of_sent {s : State} (hp : s.pstate = .sent) :
    probeStep s = if expired s then decideOutcome .timedOut s else s := by
  unfold probeStep
  rw [hp]

theorem probeStep_of_expired {s : State} (hp : s.pstate = .sent) (h : s.timeout.toNat < (s.time - s.t0).toNat) :
    probeStep s = { s with pres := .timedOut, pstate := .releasing } := by
  rw [probeStep_of_sent hp, if_pos ((expired_iff s).2 h), decideOutcome]

theorem probeStep_of_within {s : State} (hp : s.pstate = .sent) (h : (s.time - s.t0).toNat ≤ s.timeout.toNat) :
    probeStep s = s := by
  rw [probeStep_of_sent hp, if_neg (not_expired h)]

/-- The outcome a verdict decides (42_probe R179). -/
def verdictOutcome : Verdict → ProbeResult
  | .matched _ _ => .success
  | .wrong => .wrongAnswer

theorem probeStep_of_received {s : State} (hp : s.pstate = .received) :
    probeStep s =
      { s with
        pres := verdictOutcome (classifyLen (storedDatagram s) s.rxlen.toNat s.target s.ident s.seq)
        pstate := .releasing } := by
  have hvalidate : probeStep s = validateDatagram s := by
    unfold probeStep
    rw [hp]
  rw [hvalidate, validateDatagram]
  cases classifyLen (storedDatagram s) s.rxlen.toNat s.target s.ident s.seq <;> rfl

/-- An accepted datagram is judged as classify judges all of it. -/
theorem probeStep_acceptDatagram {d : List Byte} {s : State} (hwf : s.params.wf = true) (hd : d.length ≤ 65535) :
    probeStep (acceptDatagram d s) =
      { acceptDatagram d s with
        pres := verdictOutcome (classify d s.target s.ident s.seq), pstate := .releasing } := by
  obtain ⟨-, ⟨-, hcap, -⟩, -⟩ := params_wf hwf
  rw [probeStep_of_received rfl, storedDatagram_acceptDatagram hd, acceptDatagram_rxlen_toNat hd, ← classifyLen_take hcap]
  rfl

/-! ### OPEN_RSP and the messages TRANSPORT may not send (42_probe R172, R180) -/

/-- The state after OPEN_RSP(ok = 1) (42_probe R172). -/
theorem openSucceeds_eq (s : State) :
    openSucceeds s =
      { storeBytes txbufBase (echoMsg typeRequest (requestChecksum s.ident s.seq) s.ident s.seq) s with
        treq := .send, handle := true, pstate := .sending
        issued := some (.send s.target (echoMsg typeRequest (requestChecksum s.ident s.seq) s.ident s.seq)) } := by
  rw [openSucceeds, composeMsg_eq]
  rfl

theorem transportStep_openRsp_unawaited (ok : Bool) {s : State} (h : s.pstate ≠ .opening ∨ s.treq ≠ .openReq) :
    transportStep (.openRsp ok) s = s :=
  if_neg fun ⟨hp, ht⟩ => h.elim (· hp) (· ht)

theorem transportStep_sendRsp_unawaited (ok : Bool) {s : State} (h : s.pstate ≠ .sending ∨ s.treq ≠ .send) :
    transportStep (.sendRsp ok) s = s :=
  if_neg fun ⟨hp, ht⟩ => h.elim (· hp) (· ht)

theorem transportStep_rx_unawaited (d : List Byte) {s : State} (h : s.pstate ≠ .sent) : transportStep (.rx d) s = s :=
  if_neg fun ⟨hp, _⟩ => h hp

theorem transportStep_fault_unawaited {s : State} (h : s.pstate ≠ .sent) : transportStep .fault s = s := if_neg h

/-! ### The statements -/

/-- Settles O36: the header length and the checks read the named bytes, and the message check what follows the header. -/
theorem classifyReadsOnlyNamedFields : Obligations.ClassifyReadsOnlyNamedFields := by
  unfold Obligations.ClassifyReadsOnlyNamedFields
  intro D E target id seq hlen h
  have hsource : sourceAddress D = sourceAddress E := by
    rw [sourceAddress_eq, sourceAddress_eq, h 12 (by omega), h 13 (by omega), h 14 (by omega), h 15 (by omega)]
  have hdrop : D.drop (headerLength D) = E.drop (headerLength D) :=
    drop_eq_of_getD_eq hlen fun k hk => h k (.inr (.inr (.inr (headerLength_eq D ▸ hk))))
  rw [classify, classify, ← hlen]
  exact classifyLen_congr _ _ _ _ (h 0 (.inl rfl)) (h 9 (.inr (.inl rfl))) hsource hdrop

/-- Settles O37: in RECEIVED the ENGINE step is the verdict on the stored bytes, and cutting a datagram at a legal capacity
changes no verdict. -/
theorem validationJudgesTheStoredDatagram : Obligations.ValidationJudgesTheStoredDatagram := by
  unfold Obligations.ValidationJudgesTheStoredDatagram
  refine ⟨fun s hb hp => ?_, fun D cap target id seq hcap => classifyLen_take hcap D target id seq⟩
  rw [exec_busy_probe s hb, probeStep_of_received hp]
  refine ⟨fun id seq hmatch => ?_, fun hwrong => ?_⟩
  · rw [show classifyLen (storedDatagram s) _ _ _ _ = _ from hmatch, verdictOutcome]
  · rw [show classifyLen (storedDatagram s) _ _ _ _ = _ from hwrong, verdictOutcome]

/-- Settles O38: the three cases, and the bounds and the order that follow from them. -/
theorem latencyRoundsHalfToEven : Obligations.LatencyRoundsHalfToEven := by
  unfold Obligations.LatencyRoundsHalfToEven
  intro T E hT
  obtain ⟨hlow, hhigh, htie⟩ := latencyMs_nearest hT E
  exact ⟨latencyMs_of_below, latencyMs_of_above, latencyMs_of_tie, hlow, hhigh, htie, latencyMs_le hT E,
    fun E' h => latencyMs_mono T h⟩

/-- Settles O39: the composed message, of 8 bytes, goes to TXBUF and to the transport port. -/
theorem openSucceedsSendsTheRequest : Obligations.OpenSucceedsSendsTheRequest := by
  unfold Obligations.OpenSucceedsSendsTheRequest
  intro s hp ht
  have hlength := echoMsg_length typeRequest (requestChecksum s.ident s.seq) s.ident s.seq
  refine ⟨openSucceeds s, _, _, composeMsg_eq s.ident s.seq, ?_, fun k hk => ?_, fun a ha => ?_, ?_⟩
  · rw [agentStep_transport, transportStep_openRsp true hp ht, if_pos rfl]
  · rw [openSucceeds_eq]
    exact readByte_txbuf_of_lt hlength s hk
  · rw [openSucceeds_eq]
    exact readByte_txbuf_of_outside hlength s ha
  · rw [openSucceeds_eq]
    rfl

/-- Settles O46: RX within the window is the acceptance of the datagram, and validation is then the verdict on all of it. -/
theorem acceptedDatagramIsJudgedWhole : Obligations.AcceptedDatagramIsJudgedWhole := by
  unfold Obligations.AcceptedDatagramIsJudgedWhole
  intro s t d hwf hb hp hd hwithin hstep
  rw [agentStep_transport, transportStep_rx hp hd, datagramArrives_within d hwithin] at hstep
  obtain rfl := Host.Outcome.next.inj hstep
  rw [exec_busy_probe (acceptDatagram d s) hb, probeStep_acceptDatagram hwf hd]
  refine ⟨fun id seq hmatch => ?_, fun hwrong => ?_⟩
  · rw [hmatch, verdictOutcome]
  · rw [hwrong, verdictOutcome]

/-- Settles O44: each message is tested against the state that waits for it. -/
theorem transportSpeaksOnlyWhenAwaited : Obligations.TransportSpeaksOnlyWhenAwaited := by
  unfold Obligations.TransportSpeaksOnlyWhenAwaited
  intro s
  refine ⟨fun ok h => ?_, fun ok h => ?_, fun h => ⟨fun d => ?_, ?_⟩⟩
  · rw [agentStep_transport, transportStep_openRsp_unawaited ok h]
  · rw [agentStep_transport, transportStep_sendRsp_unawaited ok h]
  · rw [agentStep_transport, transportStep_rx_unawaited d h]
  · rw [agentStep_transport, transportStep_fault_unawaited h]

/-- Settles O45: the ENGINE step of PROBE in the three states that wait. -/
theorem timeoutDetectorFiresAfterTheWindow : Obligations.TimeoutDetectorFiresAfterTheWindow := by
  unfold Obligations.TimeoutDetectorFiresAfterTheWindow
  intro s hb
  rw [exec_busy_probe s hb]
  refine ⟨fun hp hafter => ?_, fun hp hwithin => ?_, fun hp => ?_⟩
  · rw [probeStep_of_expired hp hafter]
  · rw [probeStep_of_within hp hwithin]
  · rw [probeStep_of_waiting hp]

end Sys2Proof.Machine

/-! SUPPORT. What a step takes off the agenda, the registers read bit by bit, all that a command can answer, and the statements
of 10_state, 20_memory, 30_encoding and 60_exceptions on words, registers and the frame of the commands. -/

namespace Sys2Proof.Machine

/-! ### The next step (00_scope R7; log 1) -/

theorem step_of_agenda_cons {s : State} {e : Event} {rest : List Event} (h : s.agenda = e :: rest) :
    step s = agentStep e { s with agenda := rest, draws := s.draws + 1, issued := none, rdata := none } := by
  rw [step, nextEvent_cons h, beginStep, h, List.tail_cons]

theorem step_of_agenda_nil {s : State} (h : s.agenda = []) :
    step s = agentStep (Config.environment s.draws) { s with draws := s.draws + 1, issued := none, rdata := none } := by
  rw [step, nextEvent_nil h, beginStep, h, List.tail_nil, ← h]

/-- An ENGINE turn with a command in CUROP is the command's step. -/
theorem engineStep_of_curop {s : State} {i : Instr} (hb : s.busy = true) (hf : s.fatal = false)
    (hc : s.curop = opcode i) : engineStep s = exec i s := by
  simp [engineStep, hb, hf, hc]

theorem engineStep_disabled {s : State} (h : s.busy = false ∨ s.fatal = true) : engineStep s = .next s := by
  obtain hb | hf := h
  · simp [engineStep, hb]
  · simp [engineStep, hf]

/-! ### The command words (30_encoding R91, R92) -/

theorem decode_eq_ok_iff_eq_encode (w : Word) (i : Instr) : decode w = .ok i ↔ w = encode i := by
  rw [decode_eq_ok_iff, decodeOp_eq_some_iff, eq_encode_iff]

/-- The six command words are the numbers 1 to 6, PROBE's the last. -/
theorem encode_toNat_bounds (i : Instr) :
    1 ≤ (encode i).toNat ∧ (encode i).toNat ≤ 6 ∧ ((encode i).toNat = 6 ↔ i = .probe) := by
  cases i <;> decide

theorem exists_eq_encode {w : Word} (hlow : 1 ≤ w.toNat) (hhigh : w.toNat ≤ 6) : ∃ i, w = encode i := by
  have hw : ∀ i : Instr, w.toNat = (encode i).toNat → ∃ i, w = encode i := fun i h => ⟨i, BitVec.eq_of_toNat_eq h⟩
  generalize w.toNat = n at hlow hhigh hw
  interval_cases n
  · exact hw .foldsum rfl
  · exact hw .cksum rfl
  · exact hw .compose rfl
  · exact hw .parse rfl
  · exact hw .validate rfl
  · exact hw .probe rfl

/-- A word outside 1 to 6 is no command. -/
theorem decode_illegal {w : Word} (h : ¬ (1 ≤ w.toNat ∧ w.toNat ≤ 6)) : ∃ e, decode w = .error e := by
  cases hd : decode w with
  | error e => exact ⟨e, rfl⟩
  | ok i =>
    obtain ⟨hlow, hhigh, -⟩ := encode_toNat_bounds i
    rw [(decode_eq_ok_iff_eq_encode w i).1 hd] at h
    exact absurd ⟨hlow, hhigh⟩ h

/-! ### Presenting a word (60_exceptions R212) -/

theorem presentWord_busy (w : Word) {s : State} (hb : s.busy = true) :
    presentWord w s = .next { s with ovr := true } := if_pos hb

theorem presentWord_encode (i : Instr) {s : State} (hb : s.busy = false) : presentWord (encode i) s = exec i s := by
  rw [presentWord, if_neg (Bool.eq_false_iff.1 hb), decode_encode]

theorem presentWord_illegal {w : Word} (h : ¬ (1 ≤ w.toNat ∧ w.toNat ≤ 6)) {s : State} (hb : s.busy = false)
    (hf : s.fatal = false) : presentWord w s = .next (reject .illegalCmd s) := by
  obtain ⟨e, he⟩ := decode_illegal h
  rw [presentWord, if_neg (Bool.eq_false_iff.1 hb), he, hf]
  rfl

theorem hostWrite_cmd (w : Word) (s : State) : hostWrite 0x004#12 w s = presentWord w s := by
  cases hb : s.busy with
  | true => rw [hostWrite_frozen w hb rfl rfl, presentWord_busy w hb]
  | false =>
    have hfrozen : frozenWhileBusy s 4 = true := rfl
    simp [hostWrite, hfrozen, hb]

/-! ### The registers as the host reads them (10_state R21 to R24) -/

theorem ctrlWord_getLsbD (s : State) (k : Nat) : (ctrlWord s).getLsbD k = (decide (k = 0) && s.ie) := by
  rw [ctrlWord, BitVec.getLsbD_cast, BitVec.getLsbD_append, BitVec.getLsbD_ofBool]
  by_cases hk : k = 0 <;> simp [hk]

/-- The bits of STATUS that a WRITE can clear are DONE and OVR (10_state R24). -/
theorem mask_ack_getLsbD {k : Nat} (hk : k < 32) : (0xA#32).getLsbD k = decide (k = 1 ∨ k = 3) := by
  interval_cases k <;> rfl

/-- A field of STATUS is found by its bits. -/
theorem statusWord_extract {s : State} {lo n : Nat} {f : BitVec n}
    (h : ∀ k, k < n → (statusWord s).getLsbD (lo + k) = f.getLsbD k) : (statusWord s).extractLsb' lo n = f := by
  refine BitVec.eq_of_getLsbD_eq fun k hk => ?_
  rw [BitVec.getLsbD_extractLsb', decide_eq_true hk, Bool.true_and, h k hk]

/-- A 16-bit register reads back what was written with the reserved bits 0 (10_state R22). -/
theorem zext_low_half (v : Word) : (v.extractLsb' 0 16).setWidth 32 = v &&& 0xFFFF#32 := by
  apply BitVec.eq_of_toNat_eq
  have hmask : (0xFFFF#32).toNat = 2 ^ 16 - 1 := rfl
  rw [BitVec.toNat_and, hmask, Nat.and_two_pow_sub_one_eq_mod, BitVec.toNat_setWidth_of_le (by decide),
    BitVec.extractLsb'_toNat, Nat.shiftRight_zero]

/-- A WRITE to an operand register of an idle engine lands. -/
theorem hostWrite_operand {addr : BitVec 12} (v : Word) {s : State} (hb : s.busy = false)
    (ha : addr = 0x00C#12 ∨ addr = 0x010#12 ∨ addr = 0x014#12 ∨ addr = 0x018#12 ∨ addr = 0x01C#12) :
    hostWrite addr v s = .next (writeOperand addr.toNat v s) := by
  have hfrozen : frozenWhileBusy s addr.toNat = true := by
    rw [frozenWhileBusy_iff]
    obtain rfl | rfl | rfl | rfl | rfl := ha <;> exact .inl (by decide)
  have hregs : addr.toNat % 4 = 0 ∧ addr.toNat ≠ 0x000 ∧ addr.toNat ≠ 0x004 ∧ addr.toNat ≠ 0x008 := by
    obtain rfl | rfl | rfl | rfl | rfl := ha <;> decide
  simp [hostWrite, hb, hfrozen, hregs]

theorem writeOperand_len (v : Word) (s : State) :
    writeOperand 0x00C v s = { s with len := v.extractLsb' 0 16 } := by
  rw [← BitVec.setWidth_eq_extractLsb' (by decide)]
  rfl

theorem writeOperand_ident (v : Word) (s : State) :
    writeOperand 0x010 v s = { s with ident := v.extractLsb' 0 16 } := by
  rw [← BitVec.setWidth_eq_extractLsb' (by decide)]
  rfl

theorem writeOperand_seq (v : Word) (s : State) :
    writeOperand 0x014 v s = { s with seq := v.extractLsb' 0 16 } := by
  rw [← BitVec.setWidth_eq_extractLsb' (by decide)]
  rfl

/-! ### All that a command can answer (60_exceptions R212 to R215) -/

/-- The completion with a value or with none writes RESULT and RV. -/
theorem finishValue_eq_finish (r : Option (Half × Half)) (s : State) :
    ∃ x b, finishValue r s = finish .none { s with result := x, rv := b } := by
  obtain _ | ⟨id, seq⟩ := r <;> exact ⟨_, _, rfl⟩

/-- A step behind a length check reports the bad length or completes with what stands behind the check. -/
theorem lengthChecked_completes {c : Prop} [Decidable c] {n : Nat} {s t u : State}
    (h : t = if c then raise (.invalidLength n) s else u)
    (hu : ∃ r b, u = finish .none { s with result := r, rv := b }) :
    (∃ e, t = raise e s) ∨ (∃ r b, t = finish .none { s with result := r, rv := b }) := by
  by_cases hc : c
  · exact .inl ⟨_, h.trans (if_pos hc)⟩
  · rw [if_neg hc] at h
    exact .inr (h ▸ hu)

/-- An executing command other than PROBE reports an error, writes RESULT and RV, or is COMPOSE. -/
theorem executeStep_command_cases {i : Instr} (hi : i ≠ .probe) (s : State) :
    (∃ e, executeStep i s = raise e s) ∨
    (∃ r b, executeStep i s = finish .none { s with result := r, rv := b }) ∨
    (i = .compose ∧ ∃ M r, M.length = 8 ∧
      executeStep i s = finish .none { storeBytes txbufBase M s with result := r }) := by
  cases i with
  | foldsum => exact (lengthChecked_completes (foldsumStep.eq_def s) ⟨_, s.rv, rfl⟩).imp_right .inl
  | cksum => exact (lengthChecked_completes (cksumStep.eq_def s) ⟨_, s.rv, rfl⟩).imp_right .inl
  | compose => exact .inr (.inr ⟨rfl, _, _, echoMsg_length .., composeStep_eq s⟩)
  | parse => exact (lengthChecked_completes (parseStep.eq_def s) (finishValue_eq_finish _ s)).imp_right .inl
  | validate => exact (lengthChecked_completes (validateStep.eq_def s) (finishValue_eq_finish _ s)).imp_right .inl
  | probe => exact absurd rfl hi

/-- All that `exec` can answer, presenting and executing (log 3). -/
theorem exec_cases {i : Instr} {s t : State} (h : exec i s = .next t) :
    (s.busy = false ∧ (t = reject .halted s ∨ (i = .probe ∧ t = startProbe (accept .probe s)) ∨
      (i ≠ .probe ∧ t = accept i s))) ∨
    (s.busy = true ∧ i ≠ .probe ∧ ((∃ e, t = raise e s) ∨
      (∃ r b, t = finish .none { s with result := r, rv := b }) ∨
      (i = .compose ∧ ∃ M r, M.length = 8 ∧ t = finish .none { storeBytes txbufBase M s with result := r }))) ∨
    (s.busy = true ∧ i = .probe ∧ (t = s ∨ (∃ r, t = decideOutcome r s) ∨ t = releaseProbe s)) := by
  cases hb : s.busy with
  | false =>
    rw [exec_idle i s hb] at h
    obtain rfl := Host.Outcome.next.inj h
    refine .inl ⟨rfl, ?_⟩
    split
    · exact .inl rfl
    · by_cases hi : i = .probe
      · exact .inr (.inl ⟨hi, if_pos hi⟩)
      · exact .inr (.inr ⟨hi, if_neg hi⟩)
  | true =>
    rw [exec_busy i s hb] at h
    obtain rfl := Host.Outcome.next.inj h
    by_cases hi : i = .probe
    · subst hi
      exact .inr (.inr ⟨rfl, rfl, probeStep_cases s⟩)
    · exact .inr (.inl ⟨rfl, hi, executeStep_command_cases hi s⟩)

/-- The part of the state that no command writes, presented or executed: CTRL.IE, STATUS.OVR, the operand registers, TIME, T0
and the model's inputs. -/
structure CommandReadOnly where
  ie : Bool
  ovr : Bool
  len : Half
  ident : Half
  seq : Half
  target : Word
  timeout : Word
  time : Tick
  t0 : Tick
  params : Config.Params
  rdata : Option Word
  agenda : List Event
  draws : Nat
  epoch : Nat

/-- The commands' read-only part of a state. -/
def State.commandReadOnly (s : State) : CommandReadOnly where
  ie := s.ie
  ovr := s.ovr
  len := s.len
  ident := s.ident
  seq := s.seq
  target := s.target
  timeout := s.timeout
  time := s.time
  t0 := s.t0
  params := s.params
  rdata := s.rdata
  agenda := s.agenda
  draws := s.draws
  epoch := s.epoch

/-- The registers of the probe unit, with its wire to TRANSPORT. -/
structure ProbeUnit where
  pstate : PState
  handle : Bool
  treq : TReq
  pres : ProbeResult
  presult : ProbeResult
  latency : Word
  elapsed : Word
  rxlen : Half
  issued : Option TransportReq

/-- The probe unit's part of a state. -/
def State.probeUnit (s : State) : ProbeUnit where
  pstate := s.pstate
  handle := s.handle
  treq := s.treq
  pres := s.pres
  presult := s.presult
  latency := s.latency
  elapsed := s.elapsed
  rxlen := s.rxlen
  issued := s.issued

@[simp] theorem raise_commandReadOnly (e : CommandError) (s : State) :
    (raise e s).commandReadOnly = s.commandReadOnly := by
  cases e <;> rfl

@[simp] theorem raise_probeUnit (e : CommandError) (s : State) : (raise e s).probeUnit = s.probeUnit := by
  cases e <;> rfl

theorem exec_commandReadOnly {i : Instr} {s t : State} (h : exec i s = .next t) :
    t.commandReadOnly = s.commandReadOnly := by
  obtain ⟨-, rfl | ⟨-, rfl⟩ | ⟨-, rfl⟩⟩ | ⟨-, -, ⟨e, rfl⟩ | ⟨r, b, rfl⟩ | ⟨-, M, r, -, rfl⟩⟩ | ⟨-, -, rfl | ⟨r, rfl⟩ | rfl⟩ :=
    exec_cases h
  case inr.inl.inl => exact raise_commandReadOnly e s
  all_goals rfl

/-- No command but PROBE writes a register of the probe unit. -/
theorem exec_probeUnit {i : Instr} {s t : State} (hi : i ≠ .probe) (h : exec i s = .next t) :
    t.probeUnit = s.probeUnit := by
  obtain ⟨-, rfl | ⟨rfl, -⟩ | ⟨-, rfl⟩⟩ | ⟨-, -, ⟨e, rfl⟩ | ⟨r, b, rfl⟩ | ⟨-, M, r, -, rfl⟩⟩ | ⟨-, rfl, -⟩ := exec_cases h
  case inr.inl.inl => exact raise_probeUnit e s
  case inl.inr.inl => exact absurd rfl hi
  case inr.inr => exact absurd rfl hi
  all_goals rfl

/-- PROBE leaves RESULT and FATAL, and RV once it is accepted. -/
theorem exec_probe_keeps {s t : State} (h : exec .probe s = .next t) :
    t.result = s.result ∧ t.fatal = s.fatal ∧ (s.busy = true → t.rv = s.rv) := by
  obtain ⟨hb, rfl | ⟨-, rfl⟩ | ⟨hi, -⟩⟩ | ⟨-, hi, -⟩ | ⟨-, -, rfl | ⟨r, rfl⟩ | rfl⟩ := exec_cases h
  case inl.inr.inr => exact absurd rfl hi
  case inr.inl => exact absurd rfl hi
  case inl.inl | inl.inr.inl => exact ⟨rfl, rfl, fun hb' => absurd hb' (by simp [hb])⟩
  all_goals exact ⟨rfl, rfl, fun _ => rfl⟩

/-- CUROP is written by acceptance alone. -/
theorem exec_busy_curop {i : Instr} {s t : State} (hb : s.busy = true) (h : exec i s = .next t) : t.curop = s.curop := by
  rw [exec_busy i s hb] at h
  obtain rfl := Host.Outcome.next.inj h
  exact congrArg EngineReadOnly.curop (executeStep_engineReadOnly i s)

/-- Presentation writes no result and never halts the engine. -/
theorem exec_idle_keeps {i : Instr} {s t : State} (hb : s.busy = false) (h : exec i s = .next t) :
    t.result = s.result ∧ t.fatal = s.fatal ∧ t.mem = s.mem := by
  obtain ⟨-, rfl | ⟨-, rfl⟩ | ⟨-, rfl⟩⟩ | ⟨hb', -⟩ | ⟨hb', -⟩ := exec_cases h
  case inr.inl | inr.inr => exact absurd hb' (by simp [hb])
  all_goals exact ⟨rfl, rfl, rfl⟩

/-- The only bytes a command writes are TXBUF's, and COMPOSE alone writes them. -/
theorem exec_mem {i : Instr} {s t : State} (h : exec i s = .next t) :
    t.mem = s.mem ∨ (i = .compose ∧ s.busy = true ∧ ∃ M, M.length = 8 ∧ t.mem = memWriteBytes s.mem txbufBase M) := by
  obtain ⟨-, rfl | ⟨-, rfl⟩ | ⟨-, rfl⟩⟩ | ⟨hb, -, ⟨e, rfl⟩ | ⟨r, b, rfl⟩ | ⟨hi, M, r, hM, rfl⟩⟩ |
    ⟨-, -, rfl | ⟨r, rfl⟩ | rfl⟩ := exec_cases h
  case inr.inl.inr.inr => exact .inr ⟨hi, hb, M, hM, rfl⟩
  case inr.inl.inl => cases e <;> exact .inl rfl
  all_goals exact .inl rfl

/-- Every byte outside TXBUF is as it was, and TXBUF's are too unless COMPOSE executes. -/
theorem readByte_exec {i : Instr} {s t : State} (h : exec i s = .next t) {a : Nat}
    (ha : i ≠ .compose ∨ s.busy = false ∨ a < 0x040 ∨ 0x048 ≤ a) : readByte t a = readByte s a := by
  have hframe := exec_commandReadOnly h
  have hdraws : t.draws = s.draws := congrArg CommandReadOnly.draws hframe
  have hepoch : t.epoch = s.epoch := congrArg CommandReadOnly.epoch hframe
  obtain hmem | ⟨hi, hb, M, hM, hmem⟩ := exec_mem h
  · exact readByte_congr hmem hdraws hepoch a
  · have hout : a < 0x040 ∨ 0x048 ≤ a := by simpa [hi, hb] using ha
    rw [← readByte_txbuf_of_outside hM s hout]
    exact readByte_congr (s := storeBytes txbufBase M s) hmem hdraws hepoch a

/-! ### The statements -/

/-- Settles O6: PROBE's word is 6, the other commands' words are 1 to 5, and no other word decodes. -/
theorem presentationIsDecidedInOrder : Obligations.PresentationIsDecidedInOrder := by
  unfold Obligations.PresentationIsDecidedInOrder
  intro w s
  refine ⟨hostWrite_cmd w s, hostWrite_cmd w s, presentWord_busy w, fun hb hf => presentWord_halted w s hf hb,
    fun hb hf hw => presentWord_illegal hw hb hf, fun hb hf hlow hhigh => ?_, fun hb hf hw => ?_⟩
  · obtain ⟨i, rfl⟩ := exists_eq_encode hlow (by omega)
    obtain ⟨-, -, hsix⟩ := encode_toNat_bounds i
    have hi : i ≠ .probe := fun hi => by
      have := hsix.2 hi
      omega
    rw [presentWord_encode i hb, exec_idle i s hb, if_neg (Bool.eq_false_iff.1 hf), if_neg hi, accept]
    rw [show (encode i).extractLsb' 0 8 = opcode i from opField_encode i]
  · obtain rfl : w = encode .probe := BitVec.eq_of_toNat_eq hw
    rw [presentWord_encode .probe hb, exec_idle .probe s hb, if_neg (Bool.eq_false_iff.1 hf), if_pos rfl,
      startProbe_accept]
    rfl

/-- Settles O9: CTRL and STATUS bit by bit. -/
theorem controlAndStatusWritesActAtAnyTime : Obligations.ControlAndStatusWritesActAtAnyTime := by
  unfold Obligations.ControlAndStatusWritesActAtAnyTime
  intro s v
  refine ⟨⟨_, hostWrite_ctrl v s, rfl, ?_⟩, ⟨_, hostWrite_status v s, acknowledge_eq v s, ?_⟩⟩
  · rw [hostRead_register _ _ (by decide) (by decide)]
    refine BitVec.eq_of_getLsbD_eq fun k _ => (ctrlWord_getLsbD _ k).trans ?_
    rw [BitVec.getLsbD_and]
    by_cases hk : k = 0
    · subst hk
      simp
    · simp [hk]
  · rw [hostRead_register _ _ (by decide) (by decide), hostRead_register _ _ (by decide) (by decide), acknowledge_eq]
    refine BitVec.eq_of_getLsbD_eq fun k hk => (statusWord_getLsbD _ k).trans ?_
    have hstatus : (registerWord s (0x008#12).toNat).getLsbD k = _ := statusWord_getLsbD s k
    rw [BitVec.getLsbD_and, BitVec.getLsbD_not, decide_eq_true hk, Bool.true_and, BitVec.getLsbD_and, hstatus]
    obtain rfl | rfl | hother : k = 1 ∨ k = 3 ∨ (k ≠ 1 ∧ k ≠ 3) := by omega
    · simp
    · simp
    · rw [mask_ack_getLsbD hk]
      simp [hother]

/-- Settles O13: no frozen address lies in the read-only ranges. -/
theorem readOnlyAddressesIgnoreWrites : Obligations.ReadOnlyAddressesIgnoreWrites := by
  unfold Obligations.ReadOnlyAddressesIgnoreWrites
  intro s addr v hwf h
  obtain ⟨⟨-, -, hdbuf⟩, -, -⟩ := params_wf hwf
  have hfree : ¬ frozenWhileBusy s addr.toNat = true := by
    rw [frozenWhileBusy_iff]
    omega
  exact hostWrite_ignored v (.inr ⟨by omega, by omega, hfree⟩)

/-- Settles O51: the frame, part by part: the commands' read-only part, the probe unit, RESULT with FATAL and RV, CUROP, and the
bytes. -/
theorem commandFrame : Obligations.CommandFrame := by
  unfold Obligations.CommandFrame
  intro i s t h
  have hframe := exec_commandReadOnly h
  simp only [State.commandReadOnly, CommandReadOnly.mk.injEq] at hframe
  obtain ⟨hie, hovr, hlen, hident, hseq, htarget, htimeout, htime, ht0, hparams, hrdata, hagenda, hdraws, hepoch⟩ := hframe
  refine ⟨hie, hovr, hlen, hident, hseq, htarget, htimeout, htime, ht0, hparams, hrdata, hagenda, hdraws, hepoch,
    fun hi => ?_, fun hi => ?_, fun hb => exec_busy_curop hb h, fun hb => ?_, fun hi a => ?_, fun _ a ha => ?_⟩
  · have hprobe := exec_probeUnit hi h
    simpa only [State.probeUnit, ProbeUnit.mk.injEq] using hprobe
  · subst hi
    exact exec_probe_keeps h
  · obtain ⟨hresult, hfatal, -⟩ := exec_idle_keeps hb h
    exact ⟨hresult, hfatal⟩
  · exact readByte_exec h (hi.imp_right .inl)
  · exact readByte_exec h (.inr (.inr ha))

/-- Settles O2: six words are the commands' own, and the others fail one of the decoder's two tests. -/
theorem specWordsDecode : Obligations.SpecWordsDecode := by
  unfold Obligations.SpecWordsDecode
  exact ⟨decode_encode .foldsum, decode_encode .cksum, decode_encode .compose, decode_encode .parse,
    decode_encode .validate, decode_encode .probe, rfl, rfl, rfl, rfl⟩

/-- Settles O3: the step of the event at the head of the agenda, or of the free schedule. -/
theorem stepPerformsTheNextAgentStep : Obligations.StepPerformsTheNextAgentStep := by
  unfold Obligations.StepPerformsTheNextAgentStep
  exact fun s => ⟨fun e rest h => step_of_agenda_cons h, step_of_agenda_nil⟩

/-- Settles O4: a WRITE to CMD presents the word, and the word is the command's own. -/
theorem presentingStepRunsTheCommand : Obligations.PresentingStepRunsTheCommand := by
  unfold Obligations.PresentingStepRunsTheCommand
  intro s w i rest hagenda hb hw
  rw [step_of_agenda_cons hagenda, (decode_eq_ok_iff_eq_encode w i).1 hw]
  exact (hostWrite_cmd (encode i) _).trans (presentWord_encode i hb)

/-- Settles O5: the ENGINE turn by BUSY, FATAL and CUROP. -/
theorem engineStepRunsTheCommandInCurop : Obligations.EngineStepRunsTheCommandInCurop := by
  unfold Obligations.EngineStepRunsTheCommandInCurop
  intro s rest hagenda
  rw [step_of_agenda_cons hagenda]
  exact ⟨fun i hb hf hc => engineStep_of_curop hb hf hc, fun h => engineStep_disabled h⟩

/-- Settles O10: each WRITE lands in its register, which the READ shows with the reserved bits 0. -/
theorem operandWritesReadBack : Obligations.OperandWritesReadBack := by
  unfold Obligations.OperandWritesReadBack
  intro s v hb
  refine ⟨⟨_, hostWrite_operand v hb (by decide), writeOperand_len v s, ?_⟩,
    ⟨_, hostWrite_operand v hb (by decide), writeOperand_ident v s, ?_⟩,
    ⟨_, hostWrite_operand v hb (by decide), writeOperand_seq v s, ?_⟩,
    ⟨_, hostWrite_operand v hb (by decide), rfl, ?_⟩, ⟨_, hostWrite_operand v hb (by decide), rfl, ?_⟩⟩ <;>
    rw [hostRead_register _ _ (by decide) (by decide)]
  · rw [show (0x00C#12).toNat = 0x00C from rfl, writeOperand_len, ← zext_low_half]
    rfl
  · rw [show (0x010#12).toNat = 0x010 from rfl, writeOperand_ident, ← zext_low_half]
    rfl
  · rw [show (0x014#12).toNat = 0x014 from rfl, writeOperand_seq, ← zext_low_half]
    rfl
  · rfl
  · rfl

/-- Settles O14: a READ looks at nothing but the registers of the map and the bytes of the buffers. -/
theorem readsChangeNothingAndSeeNoHiddenCell : Obligations.ReadsChangeNothingAndSeeNoHiddenCell := by
  unfold Obligations.ReadsChangeNothingAndSeeNoHiddenCell
  intro s addr
  refine ⟨rfl, fun _ _ _ _ _ _ _ => rfl, ?_, ?_, ?_, ?_, ?_, ?_, rfl, rfl, rfl, rfl, rfl, rfl⟩ <;>
    rw [hostRead_register _ _ (by decide) (by decide)]
  case refine_6 => exact setWidth_eq_zero_append s.rxlen
  all_goals rfl

/-- Settles O15: STATUS bit by bit. -/
theorem statusWordLayout : Obligations.StatusWordLayout := by
  unfold Obligations.StatusWordLayout
  refine ⟨fun s => ⟨statusWord s, hostRead_register s _ (by decide) (by decide), ?_⟩,
    rfl, rfl, rfl, rfl, rfl, rfl, rfl, rfl, rfl, rfl, rfl⟩
  refine ⟨statusWord_getLsbD s 0, statusWord_getLsbD s 1, statusWord_getLsbD s 2, statusWord_getLsbD s 3,
    statusWord_getLsbD s 4, ?_, ?_, ?_, ?_, statusWord_getLsbD s 19, ?_⟩ <;>
    refine statusWord_extract fun k hk => (statusWord_getLsbD s _).trans ?_ <;>
    interval_cases k <;> rfl

/-- Settles O16: irq is IE and DONE, and each operation's effect on the two is known. -/
theorem interruptFollowsDone : Obligations.InterruptFollowsDone := by
  unfold Obligations.InterruptFollowsDone
  intro s i e v
  refine ⟨Bool.and_eq_true_iff, Bool.false_and _, Bool.and_true _, Bool.and_true _, Bool.and_false _,
    fun hset => ?_, fun hclear => ?_⟩
  · rw [irq, acknowledge_done, if_pos hset, Bool.and_false]
  · rw [irq, acknowledge_done, hclear]
    rfl

/-- Settles O54: `resetStep` is reset as R240 gives it. -/
theorem resetRestoresTheResetState : Obligations.ResetRestoresTheResetState := by
  unfold Obligations.ResetRestoresTheResetState
  exact fun s => rfl

end Sys2Proof.Machine

/-! SUPPORT. All that a step can do to the sequencer and the status fields, and the statements on the sequencer's and the
probe's relations that follow from it. -/

namespace Sys2Proof.Machine

/-! ### What the sequencer's relations say -/

/-- No probe is in progress while BUSY = 0 (10_state R31). -/
theorem SequencerInv.idle_of_not_busy {s : State} (h : SequencerInv s) (hb : s.busy = false) : s.pstate = .idle := by
  by_contra hp
  obtain ⟨hbusy, -⟩ := h.probing.1 hp
  simp [hb] at hbusy

/-- No probe is in progress while another command executes. -/
theorem SequencerInv.idle_of_curop {s : State} (h : SequencerInv s) {i : Instr} (hi : i ≠ .probe)
    (hc : s.curop = opcode i) : s.pstate = .idle := by
  by_contra hp
  obtain ⟨-, hprobe⟩ := h.probing.1 hp
  have hcommand : some i = some Instr.probe := by rw [← decodeOp_opcode i, ← hc, hprobe, decodeOp_opcode]
  exact hi (Option.some.inj hcommand)

/-- In a state of a probe PROBE is being executed. -/
theorem SequencerInv.busy_of_probing {s : State} (h : SequencerInv s) {p : PState} (hp : s.pstate = p)
    (hne : p ≠ .idle) : s.busy = true ∧ s.curop = opcode .probe :=
  h.probing.1 (hp ▸ hne)

/-- TREQ as the sequencer's state has it (10_state R47). -/
def treqOf : PState → TReq
  | .opening => .openReq
  | .sending => .send
  | _ => .none

/-- HANDLE as the sequencer's state has it (10_state R32). -/
def handleOf : PState → Bool
  | .idle => false
  | .opening => false
  | _ => true

/-- HANDLE and TREQ are functions of PSTATE. -/
theorem handle_treq_iff (s : State) :
    ((s.handle = true ↔ s.pstate = .sending ∨ s.pstate = .sent ∨ s.pstate = .received ∨ s.pstate = .releasing) ∧
      (s.treq = .openReq ↔ s.pstate = .opening) ∧ (s.treq = .send ↔ s.pstate = .sending)) ↔
    s.handle = handleOf s.pstate ∧ s.treq = treqOf s.pstate := by
  cases s.pstate <;> cases s.handle <;> cases s.treq <;> decide

theorem SequencerInv.handle_treq {s : State} (h : SequencerInv s) :
    s.handle = handleOf s.pstate ∧ s.treq = treqOf s.pstate :=
  (handle_treq_iff s).1 ⟨h.handleHeld, h.openOutstanding, h.sendOutstanding⟩

/-- The status fields that a probe leaves alone until it completes, CUROP among them. -/
structure StatusUnit where
  busy : Bool
  rv : Bool
  fatal : Bool
  err : ErrCode
  curop : Byte

/-- The status fields of a state but DONE. -/
def State.statusUnit (s : State) : StatusUnit where
  busy := s.busy
  rv := s.rv
  fatal := s.fatal
  err := s.err
  curop := s.curop

/-- The relations speak of the status fields and the sequencer alone, and no acknowledgement of DONE breaks them. -/
theorem SequencerInv.congr {s t : State} (h : SequencerInv s) (hprobe : t.probeUnit = s.probeUnit)
    (hstatus : t.statusUnit = s.statusUnit) (hdone : t.done = true → s.done = true) : SequencerInv t := by
  simp only [State.probeUnit, ProbeUnit.mk.injEq] at hprobe
  simp only [State.statusUnit, StatusUnit.mk.injEq] at hstatus
  obtain ⟨hpstate, hhandle, htreq, -⟩ := hprobe
  obtain ⟨hbusy, hrv, hfatal, herr, hcurop⟩ := hstatus
  constructor
  case busyClean =>
    rw [hbusy, hrv, herr, hfatal]
    intro hb
    obtain ⟨hd, hclean⟩ := h.busyClean hb
    exact ⟨Bool.eq_false_iff.2 fun hd' => by simp [hdone hd'] at hd, hclean⟩
  case curopLegal => rw [hbusy, hcurop]; exact h.curopLegal
  case probing => rw [hpstate, hbusy, hcurop]; exact h.probing
  case handleHeld => rw [hpstate, hhandle]; exact h.handleHeld
  case openOutstanding => rw [hpstate, htreq]; exact h.openOutstanding
  case sendOutstanding => rw [hpstate, htreq]; exact h.sendOutstanding
  case halted => rw [hfatal, herr, hrv]; exact h.halted

/-- The relations of an idle engine. -/
theorem sequencerInv_of_not_busy {t : State} (hp : t.pstate = .idle) (hht : t.handle = handleOf t.pstate ∧ t.treq = treqOf t.pstate)
    (hb : t.busy = false) (hhalted : t.fatal = true → (t.err = .invalidLength ∨ t.err = .halted) ∧ t.rv = false) :
    SequencerInv t := by
  obtain ⟨hhandle, hopen, hsend⟩ := (handle_treq_iff t).2 hht
  exact ⟨by simp [hb], by simp [hb], by simp [hb, hp], hhandle, hopen, hsend, hhalted⟩

/-- The relations of an engine that executes command `i`. -/
theorem sequencerInv_of_busy {t : State} {i : Instr} (hc : t.curop = opcode i) (hb : t.busy = true)
    (hclean : t.done = false ∧ t.rv = false ∧ t.err = .none ∧ t.fatal = false) (hp : t.pstate ≠ .idle ↔ i = .probe)
    (hht : t.handle = handleOf t.pstate ∧ t.treq = treqOf t.pstate) : SequencerInv t := by
  obtain ⟨hhandle, hopen, hsend⟩ := (handle_treq_iff t).2 hht
  have hcurop : t.curop = opcode .probe ↔ i = .probe := by
    rw [hc, ← decodeOp_eq_some_iff, decodeOp_opcode, Option.some_inj]
  exact ⟨fun _ => hclean, fun _ => ⟨i, hc⟩, by rw [hp, hcurop, and_iff_right hb], hhandle, hopen, hsend,
    by simp [hclean.2.2.2]⟩

/-- A move of the sequencer within a probe leaves the status fields alone. -/
theorem SequencerInv.move {s t : State} (h : SequencerInv s) {p : PState} (hp : s.pstate = p) (hne : p ≠ .idle)
    (hstatus : t.statusUnit = s.statusUnit) (hdone : t.done = s.done) (htp : t.pstate ≠ .idle)
    (hht : t.handle = handleOf t.pstate ∧ t.treq = treqOf t.pstate) : SequencerInv t := by
  simp only [State.statusUnit, StatusUnit.mk.injEq] at hstatus
  obtain ⟨hbusy, hrv, hfatal, herr, hcurop⟩ := hstatus
  obtain ⟨hb, hc⟩ := h.busy_of_probing hp hne
  have hclean := h.busyClean hb
  rw [← hdone, ← hrv, ← herr, ← hfatal] at hclean
  exact sequencerInv_of_busy (hcurop.trans hc) (hbusy.trans hb) hclean (by simp [htp]) hht

/-! ### All that a step can do to the sequencer (42_probe R189) -/

/-- How a step takes the sequencer and the status fields from `s` to `t`: the engine's own moves outside a probe, and the moves
of the paths of 42_probe R189. -/
inductive SequencerMove (s t : State) : Prop
  /-- Nothing moves; DONE may be acknowledged, and an idle engine's operands written. -/
  | stay (hprobe : t.probeUnit = s.probeUnit) (hstatus : t.statusUnit = s.statusUnit)
      (hdone : t.done = true → s.done = true) (htimeout : s.busy = true → t.timeout = s.timeout)
      (hparams : t.params = s.params)
  /-- A word is rejected, or a command other than PROBE completes. -/
  | settle (hp : s.pstate = .idle) (hprobe : t.probeUnit = s.probeUnit) (hb : t.busy = false)
      (hhalted : t.fatal = true → (t.err = .invalidLength ∨ t.err = .halted) ∧ t.rv = false)
      (hparams : t.params = s.params)
  /-- A command other than PROBE is accepted. -/
  | accept (i : Instr) (hi : i ≠ .probe) (hb : s.busy = false) (hf : s.fatal = false) (ht : t = accept i s)
  /-- PROBE is accepted (42_probe R171). -/
  | start (hb : s.busy = false) (hf : s.fatal = false) (ht : t = startProbe (Machine.accept .probe s))
  /-- OPEN_RSP(ok = 1) (42_probe R172). -/
  | opened (hp : s.pstate = .opening) (ht : t = openSucceeds s)
  /-- OPEN_RSP(ok = 0) (42_probe R173). -/
  | openFailed (hp : s.pstate = .opening) (ht : t = openFails s)
  /-- SEND_RSP (42_probe R174). -/
  | sendAnswered (ok : Bool) (hp : s.pstate = .sending) (ht : t = sendAnswered ok s)
  /-- RX within the window (42_probe R175). -/
  | received (d : List Byte) (hp : s.pstate = .sent) (hwithin : (s.time - s.t0).toNat ≤ s.timeout.toNat)
      (ht : t = acceptDatagram d s)
  /-- FAULT within the window, or the window's end (42_probe R176, R177). -/
  | gaveUp (r : ProbeResult) (hr : r = .timedOut ∨ r = .socketError) (hp : s.pstate = .sent) (ht : t = decideOutcome r s)
  /-- Validation (42_probe R179). -/
  | validated (r : ProbeResult) (hr : r = .success ∨ r = .wrongAnswer) (hp : s.pstate = .received)
      (ht : t = decideOutcome r s)
  /-- Release and completion (42_probe R178). -/
  | released (hp : s.pstate = .releasing) (ht : t = releaseProbe s)

theorem SequencerMove.refl (s : State) : SequencerMove s s := .stay rfl rfl id (fun _ => rfl) rfl

theorem expired_cases (s : State) :
    s.timeout.toNat < (s.time - s.t0).toNat ∨ (s.time - s.t0).toNat ≤ s.timeout.toNat := Nat.lt_or_ge _ _

/-- A WRITE moves the sequencer only by presenting PROBE. -/
theorem hostWrite_sequencerMove {addr : BitVec 12} {v : Word} {s t : State} (hs : SequencerInv s)
    (h : hostWrite addr v s = .next t) : SequencerMove s t := by
  obtain rfl | rfl | ⟨-, rfl⟩ | ⟨-, -, -, rfl⟩ | ⟨hb, -, hpresent⟩ | ⟨hb, -, -, -, rfl⟩ := hostWrite_next h
  · exact .refl t
  · exact .stay rfl rfl id (fun _ => rfl) rfl
  · refine .stay rfl rfl (fun hd => ?_) (fun _ => rfl) rfl
    rw [acknowledge_eq] at hd
    exact (Bool.and_eq_true_iff.1 hd).1
  · exact .stay rfl rfl id (fun _ => rfl) rfl
  · have hp := hs.idle_of_not_busy hb
    obtain ⟨hf, rfl⟩ | ⟨hf, rfl⟩ | ⟨hf, rfl⟩ | ⟨hf, i, hi, rfl⟩ := hpresent
    · exact .settle hp rfl hb (fun _ => ⟨.inr rfl, (hs.halted hf).2⟩) rfl
    · exact .settle hp rfl hb (fun hf' => absurd (hf.symm.trans hf') Bool.false_ne_true) rfl
    · exact .start hb hf rfl
    · exact .accept i hi hb hf rfl
  · have hnot : ¬ s.busy = true := by simp [hb]
    obtain ⟨x, h⟩ | ⟨x, h⟩ | ⟨x, h⟩ | ⟨x, h⟩ | ⟨x, h⟩ | ⟨-, -, -, -, -, h⟩ := writeOperand_cases addr.toNat v s <;>
      rw [h] <;> exact .stay rfl rfl id (fun hb' => absurd hb' hnot) rfl

/-- An executing command other than PROBE completes and leaves the probe unit alone. -/
theorem executeStep_sequencerMove {i : Instr} (hi : i ≠ .probe) {s : State} (hs : SequencerInv s) (hb : s.busy = true)
    (hc : s.curop = opcode i) : SequencerMove s (executeStep i s) := by
  have hp := hs.idle_of_curop hi hc
  obtain ⟨-, hrv, -, hf⟩ := hs.busyClean hb
  have hnot : ¬ s.fatal = true := by simp [hf]
  obtain ⟨e, h⟩ | ⟨r, b, h⟩ | ⟨-, M, r, -, h⟩ := executeStep_command_cases hi s <;> rw [h]
  · cases e with
    | invalidLength n => exact .settle hp rfl rfl (fun _ => ⟨.inl rfl, hrv⟩) rfl
    | protocolError => exact .settle hp rfl rfl (fun hf' => absurd hf' hnot) rfl
  · exact .settle hp rfl rfl (fun hf' => absurd hf' hnot) rfl
  · exact .settle hp rfl rfl (fun hf' => absurd hf' hnot) rfl

/-- The ENGINE steps of PROBE move the sequencer along its paths. -/
theorem probeStep_sequencerMove (s : State) : SequencerMove s (probeStep s) := by
  cases hp : s.pstate with
  | idle =>
    have hstay : probeStep s = s := by unfold probeStep; rw [hp]
    rw [hstay]
    exact .refl s
  | opening =>
    rw [probeStep_of_waiting (.inl hp)]
    exact .refl s
  | sending =>
    rw [probeStep_of_waiting (.inr hp)]
    exact .refl s
  | sent =>
    obtain hafter | hwithin := expired_cases s
    · exact .gaveUp .timedOut (.inl rfl) hp (probeStep_of_expired hp hafter)
    · rw [probeStep_of_within hp hwithin]
      exact .refl s
  | received =>
    refine .validated _ ?_ hp (probeStep_of_received hp)
    cases classifyLen (storedDatagram s) s.rxlen.toNat s.target s.ident s.seq with
    | matched id seq => exact .inl rfl
    | wrong => exact .inr rfl
  | releasing => exact .released hp (probeStep_of_releasing hp)

/-- The TRANSPORT messages move the sequencer along its paths. -/
theorem transportStep_sequencerMove (m : TransportMsg) (s : State) : SequencerMove s (transportStep m s) := by
  obtain h | ⟨-, hp, -, h⟩ | ⟨-, hp, -, h⟩ | ⟨ok, -, hp, -, h⟩ | ⟨d, -, hp, -, h⟩ | ⟨-, hp, h⟩ := transportStep_cases m s <;>
    rw [h]
  · exact .refl s
  · exact .opened hp rfl
  · exact .openFailed hp rfl
  · exact .sendAnswered ok hp rfl
  · obtain hafter | hwithin := expired_cases s
    · rw [datagramArrives_of_expired d hafter]
      exact .refl s
    · exact .received d hp hwithin (datagramArrives_within d hwithin)
  · obtain hafter | hwithin := expired_cases s
    · rw [transportFaults_of_expired hafter]
      exact .refl s
    · exact .gaveUp .socketError (.inr rfl) hp (transportFaults_within hwithin)

/-- What every step does beside the agent's own touches neither relation. -/
theorem SequencerInv.beginStep {s : State} (h : SequencerInv s) : SequencerInv (beginStep s) :=
  ⟨h.busyClean, h.curopLegal, h.probing, h.handleHeld, h.openOutstanding, h.sendOutstanding, h.halted⟩

theorem ProbeInv.beginStep {s : State} (h : ProbeInv s) : ProbeInv (beginStep s) :=
  ⟨h.unpublished, h.inWindow, h.noDatagramYet, h.decided, h.latency, h.published⟩

/-- Every step is a move of the sequencer, or reset. -/
theorem step_sequencerMove {s t : State} (hs : SequencerInv s) (h : step s = .next t) :
    SequencerMove (beginStep s) t ∨ (nextEvent s = .reset ∧ t = resetStep (beginStep s)) := by
  obtain ⟨a, -, rfl⟩ | ⟨a, v, -, hw⟩ | ⟨-, ⟨-, rfl⟩ | ⟨hb, -, i, hi, rfl⟩⟩ | ⟨m, -, rfl⟩ | ⟨-, rfl⟩ | ⟨he, rfl⟩ :=
    step_next h
  · exact .inl (.stay rfl rfl id (fun _ => rfl) rfl)
  · exact .inl (hostWrite_sequencerMove hs.beginStep hw)
  · exact .inl (.refl _)
  · refine .inl ?_
    by_cases hprobe : i = .probe
    · subst hprobe
      exact probeStep_sequencerMove (beginStep s)
    · exact executeStep_sequencerMove hprobe hs.beginStep hb ((decodeOp_eq_some_iff _ i).1 hi)
  · exact .inl (transportStep_sequencerMove m _)
  · exact .inl (.stay rfl rfl id (fun _ => rfl) rfl)
  · exact .inr ⟨he, rfl⟩

/-! ### The sequencer's relations are kept (10_state R25 to R32, R45, R47) -/

theorem SequencerMove.sequencerInv {s t : State} (h : SequencerMove s t) (hs : SequencerInv s) : SequencerInv t := by
  have hht := hs.handle_treq
  cases h with
  | stay hprobe hstatus hdone _ _ => exact hs.congr hprobe hstatus hdone
  | settle hp hprobe hb hhalted _ =>
    simp only [State.probeUnit, ProbeUnit.mk.injEq] at hprobe
    obtain ⟨hpstate, hhandle, htreq, -⟩ := hprobe
    exact sequencerInv_of_not_busy (hpstate.trans hp) (by rwa [hpstate, hhandle, htreq]) hb hhalted
  | accept i hi hb hf ht =>
    subst ht
    have hp : (Machine.accept i s).pstate = .idle := hs.idle_of_not_busy hb
    exact sequencerInv_of_busy (i := i) rfl rfl ⟨rfl, rfl, rfl, hf⟩ (iff_of_false (not_not.2 hp) hi) hht
  | start hb hf ht =>
    subst ht
    have hhandle : s.handle = false := by rw [hht.1, hs.idle_of_not_busy hb]; rfl
    exact sequencerInv_of_busy (i := .probe) rfl rfl ⟨rfl, rfl, rfl, hf⟩
      (iff_of_true PState.noConfusion rfl) ⟨hhandle, rfl⟩
  | opened hp ht =>
    rw [ht, openSucceeds_eq]
    exact hs.move hp PState.noConfusion rfl rfl PState.noConfusion ⟨rfl, rfl⟩
  | openFailed hp ht =>
    subst ht
    obtain ⟨hb, -⟩ := hs.busy_of_probing hp PState.noConfusion
    obtain ⟨-, -, -, hf⟩ := hs.busyClean hb
    have hhandle : s.handle = false := by rw [hht.1, hp]; rfl
    exact sequencerInv_of_not_busy rfl ⟨hhandle, rfl⟩ rfl fun hf' => absurd (hf.symm.trans hf') Bool.false_ne_true
  | sendAnswered ok hp ht =>
    have hhandle : s.handle = true := by rw [hht.1, hp]; rfl
    rw [ht]
    cases ok <;> exact hs.move hp PState.noConfusion rfl rfl PState.noConfusion ⟨hhandle, rfl⟩
  | received d hp _ ht =>
    have hhandle : s.handle = true := by rw [hht.1, hp]; rfl
    have htreq : s.treq = .none := by rw [hht.2, hp]; rfl
    rw [ht]
    exact hs.move hp PState.noConfusion rfl rfl PState.noConfusion ⟨hhandle, htreq⟩
  | gaveUp r _ hp ht | validated r _ hp ht =>
    have hhandle : s.handle = true := by rw [hht.1, hp]; rfl
    have htreq : s.treq = .none := by rw [hht.2, hp]; rfl
    rw [ht]
    exact hs.move hp PState.noConfusion rfl rfl PState.noConfusion ⟨hhandle, htreq⟩
  | released hp ht =>
    subst ht
    obtain ⟨hb, -⟩ := hs.busy_of_probing hp PState.noConfusion
    obtain ⟨-, -, -, hf⟩ := hs.busyClean hb
    have htreq : s.treq = .none := by rw [hht.2, hp]; rfl
    exact sequencerInv_of_not_busy rfl ⟨rfl, htreq⟩ rfl fun hf' => absurd (hf.symm.trans hf') Bool.false_ne_true

theorem resetStep_sequencerInv (s : State) : SequencerInv (resetStep s) :=
  sequencerInv_of_not_busy rfl ⟨rfl, rfl⟩ rfl Bool.noConfusion

/-! ### The probe's relations are kept (10_state R38 to R41, R48; 42_probe R185, R187) -/

/-- The relations speak of the probe unit, the parameters and, during a probe, TIMEOUT. -/
theorem ProbeInv.congr {s t : State} (h : ProbeInv s) (hprobe : t.probeUnit = s.probeUnit) (hparams : t.params = s.params)
    (htimeout : s.pstate ≠ .idle → t.timeout = s.timeout) : ProbeInv t := by
  simp only [State.probeUnit, ProbeUnit.mk.injEq] at hprobe
  obtain ⟨hpstate, -, -, hpres, hpresult, hlatency, helapsed, hrxlen, -⟩ := hprobe
  constructor
  case unpublished => rw [hpstate, hpresult, hlatency]; exact h.unpublished
  case inWindow =>
    rw [hpstate, helapsed]
    intro hp
    rw [htimeout hp]
    exact h.inWindow hp
  case noDatagramYet => rw [hpstate, helapsed, hrxlen]; exact h.noDatagramYet
  case decided => rw [hpstate, hpres, helapsed, hrxlen]; exact h.decided
  case latency => rw [hlatency, hpresult, hparams, helapsed]; exact h.latency
  case published => rw [hpstate, hpresult, helapsed, hrxlen]; exact h.published

/-- The relations of a probe in progress, in whatever state it is: nothing is published. -/
theorem probeInv_of_unpublished {t : State} (hp : t.pstate ≠ .idle) (hun : t.presult = .none ∧ t.latency = 0#32)
    (hwindow : t.elapsed.toNat ≤ t.timeout.toNat)
    (hnone : t.pstate = .opening ∨ t.pstate = .sending ∨ t.pstate = .sent → t.elapsed = 0#32 ∧ t.rxlen = 0#16)
    (hdecided : t.pstate = .releasing →
      t.pres ≠ .none ∧ (t.pres ≠ .success → t.pres ≠ .wrongAnswer → t.elapsed = 0#32 ∧ t.rxlen = 0#16)) :
    ProbeInv t where
  unpublished _ := hun
  inWindow _ := hwindow
  noDatagramYet := hnone
  decided := hdecided
  latency := by
    obtain ⟨hpresult, hlatency⟩ := hun
    rw [hlatency, hpresult, if_neg ProbeResult.noConfusion]
  published hidle := absurd hidle hp

/-- The relations after a probe: the published outcome tells LATENCY, ELAPSED and RXLEN. -/
theorem probeInv_of_idle {t : State} (hp : t.pstate = .idle)
    (hlatency : t.latency =
      if t.presult = .success then BitVec.ofNat 32 (latencyMs t.params.ticksPerMs t.elapsed.toNat) else 0#32)
    (hpublished : t.presult ≠ .success → t.presult ≠ .wrongAnswer → t.elapsed = 0#32 ∧ t.rxlen = 0#16) :
    ProbeInv t :=
  ⟨fun hne => absurd hp hne, fun hne => absurd hp hne, by simp [hp], by simp [hp], hlatency, fun _ => hpublished⟩

theorem SequencerMove.probeInv {s t : State} (h : SequencerMove s t) (hs : SequencerInv s) (hinv : ProbeInv s) :
    ProbeInv t := by
  cases h with
  | stay hprobe _ _ htimeout hparams =>
    exact hinv.congr hprobe hparams fun hp => htimeout (hs.probing.1 hp).1
  | settle hp hprobe _ _ hparams => exact hinv.congr hprobe hparams fun hne => absurd hp hne
  | accept i _ _ _ ht => exact hinv.congr (by rw [ht]; rfl) (by rw [ht]; rfl) fun _ => by rw [ht]; rfl
  | start _ _ ht =>
    rw [ht]
    exact probeInv_of_unpublished PState.noConfusion ⟨rfl, rfl⟩ (Nat.zero_le _) (fun _ => ⟨rfl, rfl⟩) PState.noConfusion
  | opened hp ht =>
    have hne : s.pstate ≠ .idle := hp ▸ PState.noConfusion
    rw [ht, openSucceeds_eq]
    exact probeInv_of_unpublished PState.noConfusion (hinv.unpublished hne) (hinv.inWindow hne)
      (fun _ => hinv.noDatagramYet (.inl hp)) PState.noConfusion
  | openFailed hp ht =>
    rw [ht]
    exact probeInv_of_idle rfl rfl fun _ _ => hinv.noDatagramYet (.inl hp)
  | sendAnswered ok hp ht =>
    have hne : s.pstate ≠ .idle := hp ▸ PState.noConfusion
    have hnone := hinv.noDatagramYet (.inr (.inl hp))
    rw [ht]
    cases ok with
    | true =>
      exact probeInv_of_unpublished PState.noConfusion (hinv.unpublished hne) (hinv.inWindow hne) (fun _ => hnone)
        PState.noConfusion
    | false =>
      exact probeInv_of_unpublished PState.noConfusion (hinv.unpublished hne) (hinv.inWindow hne) (fun _ => hnone)
        fun _ => ⟨ProbeResult.noConfusion, fun _ _ => hnone⟩
  | received d hp hwithin ht =>
    have hne : s.pstate ≠ .idle := hp ▸ PState.noConfusion
    rw [ht]
    exact probeInv_of_unpublished PState.noConfusion (hinv.unpublished hne)
      ((acceptDatagram_elapsed_toNat d hwithin).trans_le hwithin) (by rintro (h | h | h) <;> cases h) PState.noConfusion
  | gaveUp r hr hp ht =>
    have hne : s.pstate ≠ .idle := hp ▸ PState.noConfusion
    have hnone := hinv.noDatagramYet (.inr (.inr hp))
    rw [ht]
    exact probeInv_of_unpublished PState.noConfusion (hinv.unpublished hne) (hinv.inWindow hne) (fun _ => hnone)
      fun _ => ⟨by obtain rfl | rfl := hr <;> exact ProbeResult.noConfusion, fun _ _ => hnone⟩
  | validated r hr hp ht =>
    have hne : s.pstate ≠ .idle := hp ▸ PState.noConfusion
    rw [ht]
    refine probeInv_of_unpublished PState.noConfusion (hinv.unpublished hne) (hinv.inWindow hne)
      (by rintro (h | h | h) <;> cases h) fun _ => ?_
    obtain rfl | rfl := hr
    · exact ⟨ProbeResult.noConfusion, fun hno => absurd rfl hno⟩
    · exact ⟨ProbeResult.noConfusion, fun _ hno => absurd rfl hno⟩
  | released hp ht =>
    rw [ht]
    exact probeInv_of_idle rfl rfl (hinv.decided hp).2

theorem resetStep_probeInv (s : State) : ProbeInv (resetStep s) := probeInv_of_idle rfl rfl fun _ _ => ⟨rfl, rfl⟩

/-! ### What a busy engine keeps (20_memory R65, R74) -/

/-- A WRITE to a busy engine acts on CTRL or STATUS, sets OVR, or is ignored (20_memory R65). -/
theorem hostWrite_of_busy {addr : BitVec 12} {v : Word} {s t : State} (hb : s.busy = true)
    (h : hostWrite addr v s = .next t) :
    t = s ∨ t = { s with ie := v.getLsbD 0 } ∨ t = acknowledge v s ∨ t = { s with ovr := true } := by
  have hnot : ¬ s.busy = false := by simp [hb]
  obtain h | h | ⟨-, h⟩ | ⟨-, -, -, h⟩ | ⟨hb', -⟩ | ⟨hb', -⟩ := hostWrite_next h
  · exact .inl h
  · exact .inr (.inl h)
  · exact .inr (.inr (.inl h))
  · exact .inr (.inr (.inr h))
  · exact absurd hb' hnot
  · exact absurd hb' hnot

/-- The operand registers, with the parameters and the count of resets. -/
structure Operands where
  len : Half
  ident : Half
  seq : Half
  target : Word
  timeout : Word
  params : Config.Params
  epoch : Nat

/-- The operands in the engine's read-only part. -/
def EngineReadOnly.operands (e : EngineReadOnly) : Operands where
  len := e.len
  ident := e.ident
  seq := e.seq
  target := e.target
  timeout := e.timeout
  params := e.params
  epoch := e.epoch

/-- No step but reset writes an operand register of a busy engine. -/
theorem step_operands_of_busy {s t : State} (hb : s.busy = true) (h : step s = .next t) (hreset : nextEvent s ≠ .reset) :
    t.engineReadOnly.operands = s.engineReadOnly.operands := by
  obtain ⟨a, -, rfl⟩ | ⟨a, v, -, hw⟩ | ⟨-, ⟨-, rfl⟩ | ⟨-, -, i, -, rfl⟩⟩ | ⟨m, -, rfl⟩ | ⟨-, rfl⟩ | ⟨he, -⟩ := step_next h
  · rfl
  · obtain rfl | rfl | rfl | rfl := hostWrite_of_busy (s := beginStep s) hb hw <;> rfl
  · rfl
  · exact (congrArg EngineReadOnly.operands (executeStep_engineReadOnly i (beginStep s))).trans rfl
  · exact (congrArg EngineReadOnly.operands (transportStep_keeps m (beginStep s)).1).trans rfl
  · rfl
  · exact absurd he hreset

/-! ### All that a step can do to the parameters and the buffers (20_memory R62, R72) -/

theorem hostWrite_params {addr : BitVec 12} {v : Word} {s t : State} (h : hostWrite addr v s = .next t) :
    t.params = s.params := by
  obtain rfl | rfl | ⟨-, rfl⟩ | ⟨-, -, -, rfl⟩ | ⟨-, -, hp⟩ | ⟨-, -, -, -, rfl⟩ := hostWrite_next h
  case inr.inr.inr.inr.inl =>
    obtain ⟨-, rfl⟩ | ⟨-, rfl⟩ | ⟨-, rfl⟩ | ⟨-, i, -, rfl⟩ := hp <;> rfl
  case inr.inr.inr.inr.inr =>
    obtain ⟨x, h⟩ | ⟨x, h⟩ | ⟨x, h⟩ | ⟨x, h⟩ | ⟨x, h⟩ | ⟨-, -, -, -, -, h⟩ := writeOperand_cases addr.toNat v s <;>
      exact (congrArg State.params h).trans rfl
  all_goals rfl

/-- No step changes the parameters (00_scope R8; log 4). -/
theorem step_params {s t : State} (h : step s = .next t) : t.params = s.params := by
  obtain ⟨a, -, rfl⟩ | ⟨a, v, -, hw⟩ | ⟨-, ⟨-, rfl⟩ | ⟨-, -, i, -, rfl⟩⟩ | ⟨m, -, rfl⟩ | ⟨-, rfl⟩ | ⟨-, rfl⟩ := step_next h
  · rfl
  · exact (hostWrite_params hw).trans rfl
  · rfl
  · exact congrArg EngineReadOnly.params (executeStep_engineReadOnly i (beginStep s))
  · exact congrArg EngineReadOnly.params (transportStep_keeps m (beginStep s)).1
  · rfl
  · rfl

/-- How a step writes the buffers: not at all, TXBUF with a message, RXBUF with what it keeps of a datagram, or a DBUF word of an
idle engine. -/
inductive BufferWrite (s t : State) : Prop
  | none (h : t.mem = s.mem)
  | txbuf (M : List Byte) (hM : M.length = 8) (h : t.mem = memWriteBytes s.mem txbufBase M)
  | rxbuf (d : List Byte) (hd : d.length ≤ s.params.rxbufBytes) (h : t.mem = memWriteBytes s.mem rxbufBase d)
  | dbuf (a : Nat) (v : Word) (hb : s.busy = false) (h4 : a % 4 = 0) (ha : inDbuf s a = true)
      (h : t.mem = memWriteBytes s.mem a (wordBytes v))

theorem hostWrite_bufferWrite {addr : BitVec 12} {v : Word} {s t : State} (h : hostWrite addr v s = .next t) :
    BufferWrite s t := by
  obtain rfl | rfl | ⟨-, rfl⟩ | ⟨-, -, -, rfl⟩ | ⟨-, -, hp⟩ | ⟨hb, hf, h4, hcmd, rfl⟩ := hostWrite_next h
  case inr.inr.inr.inr.inl =>
    obtain ⟨-, rfl⟩ | ⟨-, rfl⟩ | ⟨-, rfl⟩ | ⟨-, i, -, rfl⟩ := hp <;> exact .none rfl
  case inr.inr.inr.inr.inr =>
    obtain ⟨x, h⟩ | ⟨x, h⟩ | ⟨x, h⟩ | ⟨x, h⟩ | ⟨x, h⟩ | ⟨hlen, hident, hseq, htarget, htimeout, h⟩ :=
      writeOperand_cases addr.toNat v s <;> rw [h]
    case inr.inr.inr.inr.inr =>
      have hd : inDbuf s addr.toNat = true := by
        rw [frozenWhileBusy_iff] at hf
        rw [inDbuf_iff]
        omega
      exact .dbuf addr.toNat v hb h4 hd rfl
    all_goals exact .none rfl
  all_goals exact .none rfl

theorem executeStep_bufferWrite (i : Instr) (s : State) (hb : s.busy = true) : BufferWrite s (executeStep i s) := by
  obtain h | ⟨-, -, M, hM, h⟩ := exec_mem (exec_busy i s hb)
  · exact .none h
  · exact .txbuf M hM h

theorem transportStep_bufferWrite (m : TransportMsg) (s : State) : BufferWrite s (transportStep m s) := by
  obtain h | ⟨-, -, -, h⟩ | ⟨-, -, -, h⟩ | ⟨ok, -, -, -, h⟩ | ⟨d, -, -, -, h⟩ | ⟨-, -, h⟩ := transportStep_cases m s <;>
    rw [h]
  · exact .none rfl
  · rw [openSucceeds_eq]
    exact .txbuf _ (echoMsg_length ..) rfl
  · exact .none rfl
  · cases ok <;> exact .none rfl
  · obtain hafter | hwithin := expired_cases s
    · rw [datagramArrives_of_expired d hafter]
      exact .none rfl
    · rw [datagramArrives_within d hwithin]
      exact .rxbuf _ (List.length_take_le ..) rfl
  · obtain hafter | hwithin := expired_cases s
    · rw [transportFaults_of_expired hafter]
      exact .none rfl
    · rw [transportFaults_within hwithin]
      exact .none rfl

/-- Every step is one of these writes, or reset. -/
theorem step_bufferWrite {s t : State} (h : step s = .next t) :
    BufferWrite (beginStep s) t ∨ (nextEvent s = .reset ∧ t = resetStep (beginStep s)) := by
  obtain ⟨a, -, rfl⟩ | ⟨a, v, -, hw⟩ | ⟨-, ⟨-, rfl⟩ | ⟨hb, -, i, -, rfl⟩⟩ | ⟨m, -, rfl⟩ | ⟨-, rfl⟩ | ⟨he, rfl⟩ := step_next h
  · exact .inl (.none rfl)
  · exact .inl (hostWrite_bufferWrite hw)
  · exact .inl (.none rfl)
  · exact .inl (executeStep_bufferWrite i _ hb)
  · exact .inl (transportStep_bufferWrite m _)
  · exact .inl (.none rfl)
  · exact .inr ⟨he, rfl⟩

theorem inBuffer_congr {s t : State} (h : t.params = s.params) (a : Nat) : inBuffer t a = inBuffer s a := by
  rw [Bool.eq_iff_iff, inBuffer_iff, inBuffer_iff, h]

/-- A store inside the windows keeps the memory canonical and inside them. -/
theorem MemoryInv.store {s t : State} (hs : MemoryInv s) (hparams : t.params = s.params) {a : Nat} {bs : List Byte}
    (hmem : t.mem = memWriteBytes s.mem a bs) (hin : ∀ x, a ≤ x → x < a + bs.length → inBuffer s x = true) :
    MemoryInv t where
  params := by rw [hparams]; exact hs.params
  canonical := by rw [hmem]; exact memWf_memWriteBytes bs s.mem a hs.canonical
  windows c hc := by
    rw [inBuffer_congr hparams]
    rw [hmem] at hc
    obtain ⟨hlow, hhigh⟩ | hold := mem_memWriteBytes hc
    · exact hin c.1 hlow hhigh
    · exact hs.windows c hold

theorem BufferWrite.memoryInv {s t : State} (h : BufferWrite s t) (hs : MemoryInv s) (hparams : t.params = s.params) :
    MemoryInv t := by
  cases h with
  | none h => exact hs.store (bs := []) (a := 0) hparams h fun x _ hx => absurd hx (Nat.not_lt_zero x)
  | txbuf M hM h =>
    refine hs.store hparams h fun x hlow hhigh => (inBuffer_iff s x).2 ?_
    rw [hM] at hhigh
    exact .inr (.inl ⟨hlow, hhigh⟩)
  | rxbuf d hd h =>
    refine hs.store hparams h fun x hlow hhigh => (inBuffer_iff s x).2 ?_
    exact .inr (.inr ⟨hlow, hhigh.trans_le (Nat.add_le_add_left hd _)⟩)
  | dbuf a v _ h4 ha h =>
    refine hs.store hparams h fun x hlow hhigh => (inBuffer_iff s x).2 (.inl ?_)
    obtain ⟨⟨hdbuf, -, -⟩, -, -⟩ := params_wf hs.params
    rw [inDbuf_iff] at ha
    have hlength : (wordBytes v).length = 4 := rfl
    omega

/-- While BUSY = 1 no step but reset writes a byte of DBUF. -/
theorem BufferWrite.readByte_dbuf {s t : State} (h : BufferWrite s t) (hwf : s.params.wf = true) (hb : s.busy = true)
    (hepoch : t.epoch = s.epoch) {a : Nat} (hlow : 0x400 ≤ a) (hhigh : a < 0x400 + s.params.dbufBytes) :
    readByte t a = readByte s a := by
  obtain ⟨⟨-, -, hdbuf⟩, -, -⟩ := params_wf hwf
  have hfree : freeByte t a = freeByte s a := by
    have hout : ¬ (txbufBase ≤ a ∧ a < txbufBase + 8) := by unfold txbufBase; omega
    rw [freeByte, freeByte, if_neg hout, if_neg hout, hepoch]
  have hlookup : memLookup t.mem a = memLookup s.mem a := by
    cases h with
    | none h => rw [h]
    | txbuf M hM h => rw [h, memLookup_memWriteBytes, if_neg (by unfold txbufBase; omega)]
    | rxbuf d _ h => rw [h, memLookup_memWriteBytes, if_neg (by unfold rxbufBase; omega)]
    | dbuf _ _ hidle _ _ _ => simp [hb] at hidle
  rw [readByte, readByte, hlookup, hfree]

theorem memoryInv_of_no_cells {t : State} (hwf : t.params.wf = true) (hmem : t.mem = []) : MemoryInv t :=
  ⟨hwf, by rw [hmem]; exact memWf_nil, by rw [hmem]; exact fun c hc => absurd hc List.not_mem_nil⟩

/-! ### The statements -/

/-- Settles O56: every write of a step lies inside a window, and reset empties the memory. -/
theorem memoryInvariantKept : Obligations.MemoryInvariantKept := by
  unfold Obligations.MemoryInvariantKept
  intro s t hs h
  have hbegin : MemoryInv (beginStep s) := ⟨hs.params, hs.canonical, hs.windows⟩
  obtain hwrite | ⟨-, rfl⟩ := step_bufferWrite h
  · exact hwrite.memoryInv hbegin ((step_params h).trans rfl)
  · exact memoryInv_of_no_cells hs.params rfl

/-- Settles O57: every move of the sequencer, and reset, keep the relations. -/
theorem sequencerInvariantKept : Obligations.SequencerInvariantKept := by
  unfold Obligations.SequencerInvariantKept
  intro s t hs h
  obtain hmove | ⟨-, rfl⟩ := step_sequencerMove hs h
  · exact hmove.sequencerInv hs.beginStep
  · exact resetStep_sequencerInv _

/-- Settles O58: every move of the sequencer, and reset, keep the relations. -/
theorem probeInvariantKept : Obligations.ProbeInvariantKept := by
  unfold Obligations.ProbeInvariantKept
  intro s t hs hinv h
  obtain hmove | ⟨-, rfl⟩ := step_sequencerMove hs h
  · exact hmove.probeInv hs.beginStep hinv.beginStep
  · exact resetStep_probeInv _

/-- Settles O48: each move's edge and outcome. OPENING to RELEASING is excluded because the composed request never fails its
self-check. -/
theorem sequencerFollowsThePaths : Obligations.SequencerFollowsThePaths := by
  unfold Obligations.SequencerFollowsThePaths
  intro s t hs h hreset
  obtain hmove | ⟨he, -⟩ := step_sequencerMove hs h
  case inr => exact absurd he hreset
  cases hmove with
  | stay hprobe _ _ _ _ | settle _ hprobe _ _ _ =>
    have hp : t.pstate = s.pstate := congrArg ProbeUnit.pstate hprobe
    refine ⟨.inl hp, ?_⟩
    rw [hp]
    cases s.pstate <;> simp
  | accept i _ _ _ ht =>
    have hp : t.pstate = s.pstate := by rw [ht]; rfl
    refine ⟨.inl hp, ?_⟩
    rw [hp]
    cases s.pstate <;> simp
  | start hb _ ht =>
    have hp : s.pstate = .idle := hs.idle_of_not_busy hb
    have hq : t.pstate = .opening := by rw [ht]; rfl
    simp [hp, hq, sequencerEdge]
  | opened hp ht =>
    have hp : s.pstate = .opening := hp
    have hq : t.pstate = .sending := by rw [ht, openSucceeds_eq]
    simp [hp, hq, sequencerEdge]
  | openFailed hp ht =>
    have hp : s.pstate = .opening := hp
    have hq : t.pstate = .idle ∧ t.presult = .socketError := by rw [ht]; exact ⟨rfl, rfl⟩
    simp [hp, hq, sequencerEdge]
  | sendAnswered ok hp ht =>
    have hp : s.pstate = .sending := hp
    rw [ht]
    cases ok <;> simp [hp, sendAnswered_true, sendAnswered_false, sequencerEdge]
  | received d hp _ ht =>
    have hp : s.pstate = .sent := hp
    have hq : t.pstate = .received := by rw [ht]; rfl
    simp [hp, hq, sequencerEdge]
  | gaveUp r hr hp ht =>
    have hp : s.pstate = .sent := hp
    simp [hp, ht, hr, sequencerEdge]
  | validated r hr hp ht =>
    have hp : s.pstate = .received := hp
    simp [hp, ht, hr, sequencerEdge]
  | released hp ht =>
    have hp : s.pstate = .releasing := hp
    have hq : t.pstate = .idle ∧ t.presult = s.pres := by rw [ht]; exact ⟨rfl, rfl⟩
    simp [hp, hq, sequencerEdge]

/-- Settles O49: in OPENING and SENDING a WRITE finds a busy engine, the ENGINE turn is PROBE's and waits, and RX and FAULT are
not awaited. -/
theorem onlyAnswersOrResetEndTheWait : Obligations.OnlyAnswersOrResetEndTheWait := by
  unfold Obligations.OnlyAnswersOrResetEndTheWait
  intro s t hs h hp hevent
  have hidle : s.pstate ≠ .idle := by obtain hp | hp := hp <;> rw [hp] <;> exact PState.noConfusion
  have hsent : s.pstate ≠ .sent := by obtain hp | hp := hp <;> rw [hp] <;> exact PState.noConfusion
  obtain ⟨hb, hc⟩ := hs.probing.1 hidle
  obtain ⟨a, -, rfl⟩ | ⟨a, v, -, hw⟩ | ⟨-, ⟨-, rfl⟩ | ⟨-, -, i, hi, rfl⟩⟩ | ⟨m, he, rfl⟩ | ⟨-, rfl⟩ | ⟨he, rfl⟩ := step_next h
  · exact ⟨rfl, rfl, hb, rfl, rfl⟩
  · obtain rfl | rfl | rfl | rfl := hostWrite_of_busy (s := beginStep s) hb hw <;> exact ⟨rfl, rfl, hb, rfl, rfl⟩
  · exact ⟨rfl, rfl, hb, rfl, rfl⟩
  · rw [hc, decodeOp_opcode] at hi
    obtain rfl := Option.some.inj hi
    rw [executeStep, probeStep_of_waiting (s := beginStep s) hp]
    exact ⟨rfl, rfl, hb, rfl, rfl⟩
  · have hstay : transportStep m (beginStep s) = beginStep s := by
      rw [he] at hevent
      cases m with
      | openRsp ok | sendRsp ok => cases hevent
      | rx d => exact transportStep_rx_unawaited d hsent
      | fault => exact transportStep_fault_unawaited hsent
    rw [hstay]
    exact ⟨rfl, rfl, hb, rfl, rfl⟩
  · exact ⟨rfl, rfl, hb, rfl, rfl⟩
  · rw [he] at hevent
    cases hevent

/-- Settles O50: the operand registers are not written, and no write of a busy engine's step lies in DBUF. -/
theorem operandsFrozenWhileBusy : Obligations.OperandsFrozenWhileBusy := by
  unfold Obligations.OperandsFrozenWhileBusy
  intro s t hwf hb h hreset
  have hoperands := step_operands_of_busy hb h hreset
  simp only [EngineReadOnly.operands, State.engineReadOnly, Operands.mk.injEq] at hoperands
  obtain ⟨hlen, hident, hseq, htarget, htimeout, -, hepoch⟩ := hoperands
  refine ⟨hlen, hident, hseq, htarget, htimeout, fun a hlow hhigh => ?_⟩
  obtain hwrite | ⟨he, -⟩ := step_bufferWrite h
  case inr => exact absurd he hreset
  have hbegin : readByte (beginStep s) a = readByte s a :=
    (BufferWrite.none rfl : BufferWrite s (beginStep s)).readByte_dbuf hwf hb rfl hlow hhigh
  rw [← hbegin]
  exact hwrite.readByte_dbuf hwf hb hepoch hlow hhigh

/-- Settles O60: the one fault wants a CUROP that names no command while BUSY = 1, and WRITEs always answer. -/
theorem stepNeverStops : Obligations.StepNeverStops := by
  unfold Obligations.StepNeverStops
  intro s hs
  rw [step_eq]
  cases nextEvent s with
  | host x =>
    cases x with
    | read a => exact ⟨_, rfl⟩
    | write a v =>
      obtain h | h | ⟨-, h⟩ | ⟨-, -, -, h⟩ | ⟨hb, -, h⟩ | ⟨-, -, -, -, h⟩ := hostWrite_cases a v (beginStep s)
      case inr.inr.inr.inr.inl =>
        obtain ⟨i, -, hp⟩ | ⟨e, -, hp⟩ := presentWord_idle v (beginStep s) hb
        · exact ⟨_, h.trans (hp.trans (exec_idle i _ hb))⟩
        · exact ⟨_, h.trans hp⟩
      all_goals exact ⟨_, h⟩
  | engine =>
    obtain ⟨-, h⟩ | ⟨-, -, i, -, h⟩ | ⟨hb, -, hnone, -⟩ := engineStep_cases (beginStep s)
    · exact ⟨_, h⟩
    · exact ⟨_, h⟩
    · obtain ⟨i, hi⟩ := hs.beginStep.curopLegal hb
      rw [hi, decodeOp_opcode] at hnone
      cases hnone
  | transport m => exact ⟨_, rfl⟩
  | tick => exact ⟨_, rfl⟩
  | reset => exact ⟨_, rfl⟩

/-- Settles O59: at reset the engine is idle, no outcome is published and the memory has no cell. -/
theorem invariantsHoldAtReset : Obligations.InvariantsHoldAtReset := by
  unfold Obligations.InvariantsHoldAtReset
  exact ⟨memoryInv_of_no_cells (by decide) rfl, sequencerInv_of_not_busy rfl ⟨rfl, rfl⟩ rfl Bool.noConfusion,
    probeInv_of_idle rfl rfl fun _ _ => ⟨rfl, rfl⟩⟩

end Sys2Proof.Machine

/-! SUPPORT. A probe run step by step from its acceptance to its release, and the statements on whole probes. -/

namespace Sys2Proof.Machine

/-! ### Runs over a decided agenda (log 1) -/

/-- The state in which the event at the head of the agenda takes its step. -/
def takeEvent (rest : List Event) (s : State) : State :=
  { s with agenda := rest, draws := s.draws + 1, issued := none, rdata := none }

/-- A run takes the event at the head of the agenda first. -/
theorem runSteps_of_agenda_cons {s s' : State} {e : Event} {rest : List Event} (h : s.agenda = e :: rest)
    (he : agentStep e (takeEvent rest s) = .next s') (n : Nat) : runSteps (n + 1) s = runSteps n s' := by
  have hstep : step s = .next s' := (step_of_agenda_cons h).trans he
  rw [runSteps, hstep]

/-! ### A probe on its way (42_probe R170) -/

/-- `u` is a probe of the operands of `s` in sequencer state `p`, with `E` in ELAPSED and `L` in RXLEN. -/
structure ProbeOf (s u : State) (p : PState) (E : Word) (L : Half) : Prop where
  pstate : u.pstate = p
  treq : u.treq = treqOf p
  busy : u.busy = true
  fatal : u.fatal = false
  curop : u.curop = opcode .probe
  elapsed : u.elapsed = E
  rxlen : u.rxlen = L
  operands : u.ident = s.ident ∧ u.seq = s.seq ∧ u.target = s.target ∧ u.timeout = s.timeout
  params : u.params = s.params
  result : u.result = s.result

section

variable {s u : State} {p : PState} {E : Word} {L : Half} {rest : List Event}

theorem ProbeOf.takeEvent (h : ProbeOf s u p E L) (rest : List Event) : ProbeOf s (takeEvent rest u) p E L :=
  ⟨h.pstate, h.treq, h.busy, h.fatal, h.curop, h.elapsed, h.rxlen, h.operands, h.params, h.result⟩

/-- The ENGINE turn of a probe is `probeStep`. -/
theorem ProbeOf.agentStep_engine (h : ProbeOf s u p E L) : agentStep .engine u = .next (probeStep u) :=
  (engineStep_of_curop h.busy h.fatal h.curop).trans (exec_busy_probe u h.busy)

/-- Presenting PROBE to an idle engine takes it to OPENING (42_probe R171). -/
theorem runSteps_present (hb : s.busy = false) (hf : s.fatal = false)
    (hagenda : u = { s with agenda := .host (.write 0x004#12 0x00000006#32) :: rest }) (n : Nat) :
    ∃ v, runSteps (n + 1) u = runSteps n v ∧ v.agenda = rest ∧ ProbeOf s v .opening 0#32 0#16 := by
  refine ⟨startProbe (accept .probe (Machine.takeEvent rest u)),
    runSteps_of_agenda_cons (e := .host (.write 0x004#12 0x00000006#32)) (by rw [hagenda]) ?_ n, ?_⟩
  · have hidle : (Machine.takeEvent rest u).busy = false := by rw [hagenda]; exact hb
    have hrunning : ¬ (Machine.takeEvent rest u).fatal = true := by rw [hagenda]; exact Bool.eq_false_iff.1 hf
    refine (hostWrite_cmd _ _).trans ((presentWord_encode .probe hidle).trans ?_)
    rw [exec_idle .probe _ hidle, if_neg hrunning, if_pos rfl]
  · rw [hagenda]
    exact ⟨rfl, rfl, rfl, rfl, hf, rfl, rfl, rfl, ⟨rfl, rfl, rfl, rfl⟩, rfl, rfl⟩

/-- A successful open takes OPENING to SENDING (42_probe R172). -/
theorem ProbeOf.runSteps_open (h : ProbeOf s u .opening E L) (hagenda : u.agenda = .transport (.openRsp true) :: rest)
    (n : Nat) : ∃ v, runSteps (n + 1) u = runSteps n v ∧ v.agenda = rest ∧ ProbeOf s v .sending E L := by
  have hw := h.takeEvent rest
  refine ⟨openSucceeds (Machine.takeEvent rest u), runSteps_of_agenda_cons hagenda ?_ n, ?_⟩
  · rw [agentStep_transport, transportStep_openRsp true hw.pstate hw.treq, if_pos rfl]
  · rw [openSucceeds_eq]
    exact ⟨rfl, rfl, rfl, h.busy, h.fatal, h.curop, h.elapsed, h.rxlen, h.operands, h.params, h.result⟩

/-- A successful send takes SENDING to SENT and starts the wait (42_probe R174). -/
theorem ProbeOf.runSteps_send (h : ProbeOf s u .sending E L) (hagenda : u.agenda = .transport (.sendRsp true) :: rest)
    (n : Nat) :
    ∃ v, runSteps (n + 1) u = runSteps n v ∧ v.agenda = rest ∧ ProbeOf s v .sent E L ∧
      v.time - v.t0 = BitVec.ofNat 64 0 := by
  have hw := h.takeEvent rest
  refine ⟨sendAnswered true (Machine.takeEvent rest u), runSteps_of_agenda_cons hagenda ?_ n, ?_⟩
  · rw [agentStep_transport, transportStep_sendRsp true hw.pstate hw.treq]
  · exact ⟨rfl, ⟨rfl, rfl, h.busy, h.fatal, h.curop, h.elapsed, h.rxlen, h.operands, h.params, h.result⟩,
      BitVec.sub_self _⟩

/-- `k` ticks lengthen the wait by `k` and change nothing else of the probe (10_state R36). -/
theorem ProbeOf.runSteps_ticks (h : ProbeOf s u p E L) (k n : Nat)
    (hagenda : u.agenda = List.replicate k .tick ++ rest) {e : Nat} (he : u.time - u.t0 = BitVec.ofNat 64 e) :
    ∃ v, runSteps (k + n) u = runSteps n v ∧ v.agenda = rest ∧ ProbeOf s v p E L ∧
      v.time - v.t0 = BitVec.ofNat 64 (e + k) := by
  induction k generalizing u e with
  | zero => exact ⟨u, by rw [Nat.zero_add], hagenda, h, he⟩
  | succ k ih =>
    have hrun := runSteps_of_agenda_cons (e := .tick) hagenda rfl (k + n)
    have htick : ProbeOf s (timebaseStep (Machine.takeEvent (List.replicate k .tick ++ rest) u)) p E L :=
      ⟨h.pstate, h.treq, h.busy, h.fatal, h.curop, h.elapsed, h.rxlen, h.operands, h.params, h.result⟩
    have hnext : u.time + 1#64 - u.t0 = BitVec.ofNat 64 (e + 1) := by
      rw [BitVec.ofNat_add, ← he]
      ring
    obtain ⟨v, hv, hrest, hprobe, htime⟩ := ih htick rfl hnext
    refine ⟨v, ?_, hrest, hprobe, ?_⟩
    · rw [Nat.add_right_comm]
      exact hrun.trans hv
    · rw [htime, Nat.add_right_comm, Nat.add_assoc]

/-- A datagram within the window takes SENT to RECEIVED, and the next ENGINE turn decides the outcome of its verdict (42_probe
R175, R179). -/
theorem ProbeOf.runSteps_received (h : ProbeOf s u .sent E L) {d : List Byte}
    (hagenda : u.agenda = .transport (.rx d) :: .engine :: rest) (hwf : s.params.wf = true) (hd : d.length ≤ 65535)
    (hwithin : (u.time - u.t0).toNat ≤ s.timeout.toNat) (n : Nat) :
    ∃ v, runSteps (n + 2) u = runSteps n v ∧ v.agenda = rest ∧
      ProbeOf s v .releasing ((u.time - u.t0).setWidth 32) (BitVec.ofNat 16 d.length) ∧
      v.pres = verdictOutcome (classify d s.target s.ident s.seq) := by
  have hw := h.takeEvent (.engine :: rest)
  obtain ⟨hident, hseq, htarget, htimeout⟩ := hw.operands
  have hrx : agentStep (.transport (.rx d)) (Machine.takeEvent (.engine :: rest) u) =
      .next (acceptDatagram d (Machine.takeEvent (.engine :: rest) u)) := by
    rw [agentStep_transport, transportStep_rx hw.pstate hd, datagramArrives_within d (by rw [htimeout]; exact hwithin)]
  have hr : ProbeOf s (acceptDatagram d (Machine.takeEvent (.engine :: rest) u)) .received
      ((u.time - u.t0).setWidth 32) (BitVec.ofNat 16 d.length) :=
    ⟨rfl, hw.treq, hw.busy, hw.fatal, hw.curop, rfl, rfl, hw.operands, hw.params, hw.result⟩
  have hv := hr.takeEvent rest
  have hverdict : probeStep (Machine.takeEvent rest (acceptDatagram d (Machine.takeEvent (.engine :: rest) u))) = _ :=
    probeStep_acceptDatagram (s := Machine.takeEvent rest (Machine.takeEvent (.engine :: rest) u))
      (hw.params ▸ hwf) hd
  refine ⟨_, (runSteps_of_agenda_cons hagenda hrx (n + 1)).trans
    (runSteps_of_agenda_cons rfl (hv.agentStep_engine.trans (congrArg _ hverdict)) n), rfl,
    ⟨rfl, hv.treq, hv.busy, hv.fatal, hv.curop, hv.elapsed, hv.rxlen, hv.operands, hv.params, hv.result⟩, ?_⟩
  rw [← htarget, ← hident, ← hseq]
  rfl

/-- After the window the ENGINE turn takes SENT to RELEASING with TIMED_OUT (42_probe R176). -/
theorem ProbeOf.runSteps_expire (h : ProbeOf s u .sent E L) (hagenda : u.agenda = .engine :: rest)
    (hafter : s.timeout.toNat < (u.time - u.t0).toNat) (n : Nat) :
    ∃ v, runSteps (n + 1) u = runSteps n v ∧ v.agenda = rest ∧ ProbeOf s v .releasing E L ∧ v.pres = .timedOut := by
  have hw := h.takeEvent rest
  obtain ⟨-, -, -, htimeout⟩ := hw.operands
  refine ⟨probeStep (Machine.takeEvent rest u), runSteps_of_agenda_cons hagenda hw.agentStep_engine n, ?_⟩
  rw [probeStep_of_expired hw.pstate (by rw [htimeout]; exact hafter)]
  exact ⟨rfl, ⟨rfl, h.treq, h.busy, h.fatal, h.curop, h.elapsed, h.rxlen, h.operands, h.params, h.result⟩, rfl⟩

/-- In RELEASING the ENGINE turn publishes the outcome and completes (42_probe R178). -/
theorem ProbeOf.runSteps_release (h : ProbeOf s u .releasing E L) (hagenda : u.agenda = .engine :: rest) :
    ∃ t, runSteps 1 u = .next t ∧ t.presult = u.pres ∧
      t.latency = (if u.pres = .success then BitVec.ofNat 32 (latencyMs s.params.ticksPerMs E.toNat) else 0#32) ∧
      t.elapsed = E ∧ t.rxlen = L ∧ t.busy = false ∧ t.done = true ∧ t.err = .none ∧ t.pstate = .idle ∧
      t.handle = false ∧ t.issued = some .close ∧ t.result = s.result := by
  have hw := h.takeEvent rest
  refine ⟨releaseProbe (Machine.takeEvent rest u), runSteps_of_agenda_cons (n := 0) hagenda ?_, rfl, ?_, h.elapsed,
    h.rxlen, rfl, rfl, rfl, rfl, rfl, rfl, h.result⟩
  · rw [hw.agentStep_engine, probeStep_of_releasing hw.pstate]
  · rw [← h.params, ← h.elapsed]
    rfl

/-- From an idle engine to SENT, and there `k` ticks. -/
theorem runSteps_to_sent (hb : s.busy = false) (hf : s.fatal = false) (k n : Nat) (rest : List Event) :
    ∃ v, runSteps (k + n + 3)
        { s with
          agenda := [.host (.write 0x004#12 0x00000006#32), .transport (.openRsp true), .transport (.sendRsp true)] ++
            List.replicate k .tick ++ rest } = runSteps n v ∧ v.agenda = rest ∧ ProbeOf s v .sent 0#32 0#16 ∧
      v.time - v.t0 = BitVec.ofNat 64 k := by
  obtain ⟨u1, hrun1, hagenda1, h1⟩ := runSteps_present hb hf rfl (k + n + 2)
  obtain ⟨u2, hrun2, hagenda2, h2⟩ := h1.runSteps_open hagenda1 (k + n + 1)
  obtain ⟨u3, hrun3, hagenda3, h3, htime⟩ := h2.runSteps_send hagenda2 (k + n)
  obtain ⟨v, hrun, hagenda, hv, hwait⟩ := h3.runSteps_ticks k n hagenda3 htime
  rw [Nat.zero_add] at hwait
  exact ⟨v, hrun1.trans (hrun2.trans (hrun3.trans hrun)), hagenda, hv, hwait⟩

end

/-! ### The statements -/

/-- Settles O52: the wait of `k` ticks, the accepted datagram, its verdict and the release. -/
theorem matchingReplyEndsInSuccess : Obligations.MatchingReplyEndsInSuccess := by
  unfold Obligations.MatchingReplyEndsInSuccess
  intro s d k id seq hwf hb hf hd hk hmatch
  have hbound := s.timeout.isLt
  obtain ⟨u, hwait, hagenda, hu, htime⟩ := runSteps_to_sent hb hf k 3 [.transport (.rx d), .engine, .engine]
  have hticks : (u.time - u.t0).toNat = k := by
    rw [htime, BitVec.toNat_ofNat]
    omega
  obtain ⟨v, hdecide, hagenda', hv, hpres⟩ := hu.runSteps_received hagenda hwf hd (hticks.trans_le hk) 1
  obtain ⟨t, hrelease, hpresult, hlatency, helapsed, hrxlen, hcompleted⟩ := hv.runSteps_release hagenda'
  rw [hmatch, verdictOutcome] at hpres
  have hk32 : t.elapsed.toNat = k := by
    rw [helapsed, BitVec.toNat_setWidth, hticks]
    omega
  refine ⟨t, hwait.trans (hdecide.trans hrelease), hpresult.trans hpres, ?_, hk32, ?_, hcompleted⟩
  · rw [hlatency, if_pos hpres, ← helapsed, hk32]
  · rw [hrxlen, BitVec.toNat_ofNat]
    omega

/-- Settles O53: the wait of `k` ticks, the detector and the release. -/
theorem noReplyEndsInTimeout : Obligations.NoReplyEndsInTimeout := by
  unfold Obligations.NoReplyEndsInTimeout
  intro s k hb hf hk hk64
  obtain ⟨u, hwait, hagenda, hu, htime⟩ := runSteps_to_sent hb hf k 2 [.engine, .engine]
  have hafter : s.timeout.toNat < (u.time - u.t0).toNat := by
    rwa [htime, BitVec.toNat_ofNat, Nat.mod_eq_of_lt hk64]
  obtain ⟨v, hexpire, hagenda', hv, hpres⟩ := hu.runSteps_expire hagenda hafter 1
  obtain ⟨t, hrelease, hpresult, hlatency, helapsed, hrxlen, hcompleted⟩ := hv.runSteps_release hagenda'
  rw [hpres, if_neg ProbeResult.noConfusion] at hlatency
  exact ⟨t, hwait.trans (hexpire.trans hrelease), hpresult.trans hpres, hlatency, helapsed, hrxlen, hcompleted⟩

end Sys2Proof.Machine
